-- ==== Sys2Proof/Word.lean ====
section
/-! DEFINITION. The word types of the NL-848 and the eight-fold container its ports are kept in. -/

namespace Sys2Proof

/-- One byte of a frame, of a parcel or of the settings array. -/
abbrev Byte := BitVec 8

/-- One 16-bit register (Conventions, "Registers"). -/
abbrev Word := BitVec 16

/-- Eight like things, one for each port 0 to 7. -/
structure Eight (α : Type) where
  p0 : α
  p1 : α
  p2 : α
  p3 : α
  p4 : α
  p5 : α
  p6 : α
  p7 : α
deriving DecidableEq, Repr

/-- The element of port `p`. -/
def Eight.get {α : Type} (v : Eight α) : Fin 8 → α
  | 0 => v.p0
  | 1 => v.p1
  | 2 => v.p2
  | 3 => v.p3
  | 4 => v.p4
  | 5 => v.p5
  | 6 => v.p6
  | 7 => v.p7

/-- `v` with the element of port `p` replaced by `a`. -/
def Eight.set {α : Type} (v : Eight α) (p : Fin 8) (a : α) : Eight α :=
  match p with
  | 0 => { v with p0 := a }
  | 1 => { v with p1 := a }
  | 2 => { v with p2 := a }
  | 3 => { v with p3 := a }
  | 4 => { v with p4 := a }
  | 5 => { v with p5 := a }
  | 6 => { v with p6 := a }
  | 7 => { v with p7 := a }

/-- Eight copies of one value. -/
def Eight.all {α : Type} (a : α) : Eight α := ⟨a, a, a, a, a, a, a, a⟩

/-- The same function applied to every element. -/
def Eight.map {α β : Type} (f : α → β) (v : Eight α) : Eight β :=
  ⟨f v.p0, f v.p1, f v.p2, f v.p3, f v.p4, f v.p5, f v.p6, f v.p7⟩

/-- A function applied to the two elements of each port. -/
def Eight.zipWith {α β γ : Type} (f : α → β → γ) (v : Eight α) (w : Eight β) : Eight γ :=
  ⟨f v.p0 w.p0, f v.p1 w.p1, f v.p2 w.p2, f v.p3 w.p3, f v.p4 w.p4, f v.p5 w.p5, f v.p6 w.p6, f v.p7 w.p7⟩

/-- The elements in port order. -/
def Eight.toList {α : Type} (v : Eight α) : List α :=
  [v.p0, v.p1, v.p2, v.p3, v.p4, v.p5, v.p6, v.p7]

end Sys2Proof
end

