-- ==== Sys2Proof/Syntax.lean ====
section
/-! DEFINITION. The commands of the NL-848, one constructor for each row of spec/opcode_table.json, with the data each
carries: what software clocks in, or what the field side or a timer of the controller reports. -/

namespace Sys2Proof

/-- What a frame carries beside its kind and payload (section 1.1): the UNIT field, the TAG byte and the CHECK byte as
software sent it. -/
structure FrameHead where
  unit : BitVec 3
  tag : Byte
  check : Byte
deriving DecidableEq, Repr

/-- One entry of a WRITE payload (section 1.2): a register address and a value. -/
structure WriteEntry where
  address : Word
  value : Word
deriving DecidableEq, Repr

/-- Which of the two guarded outputs of a port. -/
inductive Out
  | feed
  | signal
deriving DecidableEq, Repr

/-- One character on the tether line as the receiver samples it (R85): the data bits, the parity bit and the stop bit. -/
structure LineChar where
  data : Byte
  parity : Bool
  stop : Bool
deriving DecidableEq, Repr

/-- Which line begins a reset interval (R184): the logic supply failing, or the RESET pin. -/
inductive ResetLine
  | power
  | pin
deriving DecidableEq, Repr

/-- An output of a port with the current that its load draws, in milliamperes (R52). -/
structure Load where
  out : Out
  milliamps : Nat
deriving DecidableEq, Repr

/-- What a device reset step samples (R24, R83): the strap pins, whether VFIELD is above 19.5 V and whether the die is
above 140 °C; and whether CS is then asserted, so that a frame is in progress whose rest is ignored (R24, R184). -/
structure Sample where
  straps : BitVec 3
  vfieldHigh : Bool
  dieAbove140 : Bool
  inFrame : Bool
deriving DecidableEq, Repr

/-- The commands of the block: host frames, frame ends, and events of the field side and of the controller's own timers. -/
inductive Instr
  /-- WRITE (R5): a WRITE frame with its entries. -/
  | write (f : FrameHead) (entries : List WriteEntry)
  /-- SIGNAL_MODE_CHANGE (R38): a WRITE of a port's PORT_MODE. -/
  | signalModeChange (f : FrameHead) (p : Fin 8) (value : Word)
  /-- FEED_ENABLE_CHANGE (R49): a WRITE of a port's PORT_MODE. -/
  | feedEnableChange (f : FrameHead) (p : Fin 8) (value : Word)
  /-- DRIVE_LEVEL_CHANGE (R64): a WRITE of a port's PORT_MODE. -/
  | driveLevelChange (f : FrameHead) (p : Fin 8) (value : Word)
  /-- AUTO_BIND_SET (R103): a WRITE of a port's PORT_MODE. -/
  | autoBindSet (f : FrameHead) (p : Fin 8) (value : Word)
  /-- ATTN_PRIORITY_WRITE (R162): a WRITE of ATTN_PRIORITY_A to D, numbered 0 to 3. -/
  | attnPriorityWrite (f : FrameHead) (r : Fin 4) (value : Word)
  /-- ATTN_FLOOR_WRITE (R162): a WRITE of ATTN_FLOOR. -/
  | attnFloorWrite (f : FrameHead) (value : Word)
  /-- STARTING_FRAME (R11): the bytes of a frame taken during STARTUP. -/
  | startingFrame (mosi : List Byte)
  /-- RUNT (R15): the whole bytes clocked before CS is released. -/
  | runt (mosi : List Byte)
  /-- REQUEST_PHASE_TIMEOUT (R16): the whole bytes clocked before the 20 ms stall. -/
  | requestPhaseTimeout (mosi : List Byte)
  /-- REPLY_CUT (R17): CS is released in the reply phase before the CHECK byte is out. -/
  | replyCut
  /-- FETCH_PORT_STREAM (R133): a FETCH with its selector byte. -/
  | fetchPortStream (f : FrameHead) (selector : Byte)
  /-- FETCH_PORT_COMMIT (R134): the clean end of a FETCH of a port stream. -/
  | fetchPortCommit
  /-- FETCH_JOURNAL (R144): a FETCH of stream 8. -/
  | fetchJournal (f : FrameHead)
  /-- FETCH_JOURNAL_COMMIT (R145): the clean end of a FETCH of stream 8. -/
  | fetchJournalCommit
  /-- CLAIM (R157): a FETCH of stream 9. -/
  | claim (f : FrameHead)
  /-- CLAIM_COMMIT (R158): the clean end of a FETCH of stream 9. -/
  | claimCommit
  /-- POST (R129): selector, host request tag, op, index, subindex and data. -/
  | post (f : FrameHead) (selector hostTag op : Byte) (index : Word) (subindex : Byte) (data : List Byte)
  /-- CONFIRM (R22): the bytes being confirmed. -/
  | confirm (f : FrameHead) (args : List Byte)
  /-- CONFIRM_LAPSED (R23): the 100 ms lapse timer expires. -/
  | confirmLapsed
  /-- CLEAR_LINK_FAULT (R18). -/
  | clearLinkFault (f : FrameHead) (args : List Byte)
  /-- NOOP (R18). -/
  | noop (f : FrameHead) (args : List Byte)
  /-- GO_OPERATE (R29). -/
  | goOperate (f : FrameHead) (args : List Byte)
  /-- GO_STANDBY (R28). -/
  | goStandby (f : FrameHead) (args : List Byte)
  /-- ENTER_SAFE (R31). -/
  | enterSafe (f : FrameHead) (args : List Byte)
  /-- RESUME (R34). -/
  | resume (f : FrameHead) (args : List Byte)
  /-- CLEAR_CONDITIONS (R45). -/
  | clearConditions (f : FrameHead) (args : List Byte)
  /-- RELEASE_OUTPUT (R59). -/
  | releaseOutput (f : FrameHead) (args : List Byte)
  /-- OVERCURRENT_BEGIN (R53), with the current that the load then draws. -/
  | overcurrentBegin (p : Fin 8) (o : Load)
  /-- OVERCURRENT_END (R53), with the current that the load then draws. -/
  | overcurrentEnd (p : Fin 8) (o : Load)
  /-- TRIP (R54): the cut-off timer expires. -/
  | trip (p : Fin 8) (o : Out)
  /-- RESTART (R56): the restart timer expires. -/
  | restart (p : Fin 8) (o : Out)
  /-- SETTLE (R57): the settle timer expires. -/
  | settle (p : Fin 8) (o : Out)
  /-- RAW_LEVEL_CHANGE (R66): the raw SIGNAL line takes a level. -/
  | rawLevelChange (p : Fin 8) (level : Bool)
  /-- DEBOUNCE_EXPIRY (R66). -/
  | debounceExpiry (p : Fin 8)
  /-- FIELD_FALL_BELOW_LOW (R77): VFIELD falls below 18.0 V. -/
  | fieldFallBelowLow
  /-- FIELD_FALL_TO_HIGH (R72): VFIELD falls to or below 19.5 V. -/
  | fieldFallToHigh
  /-- FIELD_RISE_ABOVE_HIGH (R72): VFIELD rises above 19.5 V. -/
  | fieldRiseAboveHigh
  /-- RESTORE_SETTLE_EXPIRY (R78). -/
  | restoreSettleExpiry
  /-- THERMAL_RISE (R77): the die rises above 160 °C. -/
  | thermalRise
  /-- THERMAL_FALL (R78): the die falls below 140 °C. -/
  | thermalFall
  /-- END_OF_TRANSMISSION (R89). -/
  | endOfTransmission (p : Fin 8)
  /-- HUSH_SENT (R97). -/
  | hushSent (p : Fin 8)
  /-- TURNAROUND_EXPIRY (R88). -/
  | turnaroundExpiry (p : Fin 8)
  /-- ANSWER_WINDOW_EXPIRY (R89): the window expires with no start bit. -/
  | answerWindowExpiry (p : Fin 8)
  /-- PARCEL_RECEPTION (R95): the characters of a completed reception. -/
  | parcelReception (p : Fin 8) (chars : List LineChar)
  /-- TICK (R108). -/
  | tick (p : Fin 8)
  /-- WAKE_SPACING_EXPIRY (R104). -/
  | wakeSpacingExpiry (p : Fin 8)
  /-- REBIND_DELAY_EXPIRY (R115). -/
  | rebindDelayExpiry (p : Fin 8)
  /-- BIND (R118). -/
  | bind (f : FrameHead) (args : List Byte)
  /-- UNBIND (R119). -/
  | unbind (f : FrameHead) (args : List Byte)
  /-- PAUSE (R120). -/
  | pause (f : FrameHead) (args : List Byte)
  /-- RESUME_PORT (R121). -/
  | resumePort (f : FrameHead) (args : List Byte)
  /-- CLEAR_COUNTERS (R122). -/
  | clearCounters (f : FrameHead) (args : List Byte)
  /-- FLUSH (R135). -/
  | flush (f : FrameHead) (args : List Byte)
  /-- JOURNAL_CLEAR (R146). -/
  | journalClear (f : FrameHead) (args : List Byte)
  /-- JOURNAL_MARK (R147). -/
  | journalMark (f : FrameHead) (args : List Byte)
  /-- RELEASE_ATTENTION (R160). -/
  | releaseAttention (f : FrameHead) (args : List Byte)
  /-- DISMISS (R161). -/
  | dismiss (f : FrameHead) (args : List Byte)
  /-- KA_ARM (R167): the first step; CONFIRM executes it. -/
  | kaArm (f : FrameHead) (args : List Byte)
  /-- KA_DISARM (R168): the first step; CONFIRM executes it. -/
  | kaDisarm (f : FrameHead) (args : List Byte)
  /-- KA_REFRESH (R169). -/
  | kaRefresh (f : FrameHead) (args : List Byte)
  /-- KA_WARNING (R166): the half period expires. -/
  | kaWarning
  /-- KA_EXPIRED (R32): the full period expires. -/
  | kaExpired
  /-- STORE_LOAD_COMPLETE (R187). -/
  | storeLoadComplete
  /-- STORE_COMMIT (R179): the first step; CONFIRM executes it. -/
  | storeCommit (f : FrameHead) (args : List Byte)
  /-- ERASE_COMPLETE (R180): whether the phase succeeded. -/
  | eraseComplete (ok : Bool)
  /-- PROGRAM_COMPLETE (R180): whether the phase succeeded. -/
  | programComplete (ok : Bool)
  /-- VERIFY_COMPLETE (R180): whether the phase succeeded. -/
  | verifyComplete (ok : Bool)
  /-- STORE_READ (R182). -/
  | storeRead (f : FrameHead) (args : List Byte)
  /-- STORE_DEFAULTS (R182): the first step; CONFIRM executes it. -/
  | storeDefaults (f : FrameHead) (args : List Byte)
  /-- SOFT_RESET (R188): the first step; CONFIRM executes it. -/
  | softReset (f : FrameHead) (args : List Byte)
  /-- PORT_RESET (R189). -/
  | portReset (f : FrameHead) (args : List Byte)
  /-- RESET_INTERVAL (R184). -/
  | resetInterval (line : ResetLine)
  /-- DEVICE_RESET_STEP (R185). -/
  | deviceResetStep (sample : Sample)
  /-- READ (R6): start address and count. -/
  | read (f : FrameHead) (start : Word) (count : Byte)
  /-- REJECT (R20): the bytes of a completed frame, whatever they are. -/
  | reject (mosi : List Byte)
deriving DecidableEq, Repr

end Sys2Proof
end

