-- ==== Sys2Proof/Decode.lean ====
section
/-! DEFINITION. The host's question which command a word of the opcode table spells. No row of spec/opcode_table.json gives
bits, so no word spells a command (notes/assumptions/24.md). The bytes of a frame are decoded in Machine/Operands.lean. -/

namespace Sys2Proof

/-- The command that a word spells by the table's bits: none, since the table gives no row any bits. -/
def decodeTableWord (_nbits _w : Nat) : Option Instr := none

end Sys2Proof
end

