-- ==== Sys2Proof/Config.lean ====
section
/-! DEFINITION. What the spec leaves to the single part: constants with no body, so that nothing can be proved of their values
(notes/assumptions/5.md, 9.md). -/

namespace Sys2Proof.Config

/-- The byte that an erase or programming left at an offset of a bank when it failed (R180: "The target's bytes are left as
the failure left them") or was abandoned by a device reset (R181). The first argument numbers the occasion, the second is the
offset within the bank. -/
opaque leftByte : Nat → Nat → Byte

/-- Whether a soft reset that meets a cool die samples it above 140 °C (R83): between 140 °C and 160 °C no event reports the
temperature (notes/assumptions/5.md). The argument numbers the occasion. -/
opaque dieAbove140 : Nat → Bool

/-- What the strap pins read at a soft reset (R24, R188): no event reports a change of the straps between resets
(notes/assumptions/5.md). The argument numbers the occasion. -/
opaque straps : Nat → BitVec 3

end Sys2Proof.Config
end

