-- ==== Sys2Proof/Machine/Bits.lean ====
section
/-! DEFINITION. Bytes, bit fields and the three checks (R3, R90, R175). -/

namespace Sys2Proof.Machine

/-- The high byte of a register. -/
def hiByte (w : Word) : Byte := w.extractLsb' 8 8

/-- The low byte of a register. -/
def loByte (w : Word) : Byte := w.extractLsb' 0 8

/-- A register from its two bytes, most significant byte first (Conventions, "Numbers and bytes"). -/
def wordOf (high low : Byte) : Word := high ++ low

/-- The two bytes of a register, most significant byte first. -/
def wordBytes (w : Word) : List Byte := [hiByte w, loByte w]

/-- The field of `width` bits of a register whose lowest bit is `low`. -/
def field (w : Word) (low width : Nat) : Nat := (w.extractLsb' low width).toNat

/-- A bit as a number. -/
def bitNat (b : Bool) : Nat := if b then 1 else 0

/-- A counter of bytes that stops at its largest value (Conventions, "Counters"). -/
def bump8 (b : Byte) : Byte := if b = 0xFF#8 then b else b + 1#8

/-- A counter of 16 bits that stops at its largest value (Conventions, "Counters"). -/
def bump16 (w : Word) : Word := if w = 0xFFFF#16 then w else w + 1#16

/-- `n` shifts of an 8-bit check register, the polynomial combined in whenever the bit shifted out was 1. -/
def crc8Shift (poly : Byte) : Nat → Byte → Byte
  | 0, r => r
  | n + 1, r => crc8Shift poly n (if r.msb then (r <<< 1) ^^^ poly else r <<< 1)

/-- An 8-bit check over bytes taken most significant bit first. -/
def crc8 (poly init : Byte) (bytes : List Byte) : Byte :=
  bytes.foldl (fun r b => crc8Shift poly 8 (r ^^^ b)) init

/-- The frame CRC-8 (R3). -/
def frameCrc (bytes : List Byte) : Byte := crc8 0x2F#8 0xFF#8 bytes

/-- The parcel CRC-8 (R90). -/
def parcelCrc (bytes : List Byte) : Byte := crc8 0x1D#8 0x00#8 bytes

/-- `n` shifts of the 16-bit check register (R175). -/
def crc16Shift : Nat → Word → Word
  | 0, r => r
  | n + 1, r => crc16Shift n (if r.msb then (r <<< 1) ^^^ 0x1021#16 else r <<< 1)

/-- The settings CRC-16 (R175). -/
def settingsCrc (bytes : List Byte) : Word :=
  bytes.foldl (fun r b => crc16Shift 8 (r ^^^ wordOf b 0x00#8)) 0xFFFF#16

/-- A sequence of registers from bytes, two bytes each; a last single byte is dropped. -/
def wordsOf : List Byte → List Word
  | h :: l :: rest => wordOf h l :: wordsOf rest
  | _ => []

/-- A character is free of parity and framing errors (R85): data and parity bits together hold an odd number of ones, and the
stop bit is high. -/
def charGood (c : LineChar) : Bool :=
  let ones := (List.range 8).foldl (fun n i => n + bitNat (c.data.getLsbD i)) (bitNat c.parity)
  (ones % 2 == 1) && c.stop

/-- The parity bit that makes the number of ones in the data bits and itself odd (R85). -/
def oddParity (data : Byte) : Bool := (List.range 8).foldl (fun ones i => ones + bitNat (data.getLsbD i)) 0 % 2 == 0

/-- A character as the controller sends it (R85). -/
def sentChar (data : Byte) : LineChar := ⟨data, oddParity data, true⟩

/-- A character bit by bit on the wire (R85): the start bit, the data bits with the least significant first, the parity bit and
the stop bit; `true` is high. -/
def wireBits (c : LineChar) : List Bool := false :: (List.range 8).map (fun i => c.data.getLsbD i) ++ [c.parity, c.stop]

end Sys2Proof.Machine
end

