-- ==== Sys2Proof/Machine/Params.lean ====
section
/-! DEFINITION. The fixed numbers of the controller: timer lengths, code tables, factory defaults. Lengths are in microseconds
unless the name says milliseconds. -/

namespace Sys2Proof.Machine

/-- The cut-off delay of a CUTOFF code (R63). -/
def cutoffUs (o : Out) (code : Nat) : Nat :=
  match o with
  | .feed => if code = 0 then 500 else if code = 1 then 1000 else if code = 2 then 2000 else 4000
  | .signal => if code = 0 then 50 else if code = 1 then 200 else if code = 2 then 400 else 800

/-- The restart delay of a RESTART code (R63). -/
def restartUs (o : Out) (code : Nat) : Nat :=
  match o with
  | .feed => if code = 0 then 20000 else if code = 1 then 80000 else if code = 2 then 320000 else 1280000
  | .signal => if code = 0 then 10000 else if code = 1 then 40000 else if code = 2 then 160000 else 640000

/-- The cut-off current of a CURRENT code, in milliamperes (R63). -/
def cutoffCurrentMa (o : Out) (code : Nat) : Nat :=
  match o with
  | .feed => if code = 0 then 250 else if code = 1 then 500 else if code = 2 then 1000 else 1500
  | .signal => if code = 0 then 50 else if code = 1 then 100 else if code = 2 then 200 else 300

/-- The settle period (R57). -/
def settleUs : Nat := 2000000

/-- The debounce time of a DEBOUNCE code 1 to 3 (R66). -/
def debounceUs (code : Nat) : Nat := if code = 1 then 100 else if code = 2 then 1000 else 10000

/-- The restore settle of the field supply (R73). -/
def restoreSettleUs : Nat := 20000

/-- The spacing of WAKE attempts (R104). -/
def wakeSpacingUs : Nat := 10000

/-- The rebind delay (R115). -/
def rebindDelayUs : Nat := 500000

/-- The number of WAKE exchanges of a waking period (R104). -/
def wakeAttempts : Nat := 4

/-- The lapse time of a pending confirmation (R23). -/
def lapseUs : Nat := 100000

/-- The request-phase timeout (R16). -/
def requestTimeoutUs : Nat := 20000

/-- The cycle period of a CYCLE code, in milliseconds (R107). -/
def cycleMs (code : Nat) : Nat :=
  if code = 0 then 2 else if code = 1 then 5 else if code = 2 then 10 else if code = 3 then 20 else if code = 4 then 50 else 100

/-- The keepalive period of a period code, in milliseconds (chapter 10). -/
def keepaliveMs (code : Nat) : Nat :=
  if code = 0 then 10 else if code = 1 then 20 else if code = 2 then 50 else if code = 3 then 100
  else if code = 4 then 200 else if code = 5 then 500 else if code = 6 then 1000 else 2000

/-- The bit rate of a RATE code, in bits per second (R86). -/
def bitRate (code : Nat) : Nat := if code = 0 then 9600 else if code = 1 then 57600 else 250000

/-- The bit times of one character (R85). -/
def charBits : Nat := 11

/-- The character times of the closing gap (R87), the turnaround (R88) and the answer window (R89). -/
def gapChars : Nat := 2

/-- The turnaround, in character times (R88). -/
def turnaroundChars : Nat := 3

/-- The answer window, in character times (R89). -/
def windowChars : Nat := 16

/-- A reception of this many characters is overlong (R87). -/
def overlongChars : Nat := 32

/-- The journal's capacity (R138). -/
def journalCapacity : Nat := 32

/-- The number of pool slots (R124). -/
def poolSlots : Nat := 32

/-- DEVICE_ID (R176). -/
def deviceId : Word := 0x0848#16

/-- The factory defaults (section 12.6). -/
def factoryPortMode : Word := 0x0200#16

/-- FEED_GUARD and SIGNAL_GUARD (R63). -/
def factoryGuard : Word := 0x0315#16

/-- SAFE_ACTION (R171). -/
def factorySafeAction : Word := 0x0030#16

/-- LINE_CONFIG (R86). -/
def factoryLineConfig : Word := 0x0389#16

/-- POOL_QUOTA (R127). -/
def factoryQuota : Word := 0x0004#16

/-- PORT_ATTN_MASK (R163). -/
def factoryAttnMask : Word := 0x01FF#16

/-- JOURNAL_CONFIG (section 8.2). -/
def factoryJournalConfig : Word := 0xB9FF#16

/-- The size of the settings array (section 11.1). -/
def arraySize : Nat := 4096

/-- The sizes of the factory area and of a bank (section 11.1). -/
def factorySize : Nat := 1024

/-- The size of a bank (section 11.1). -/
def bankSize : Nat := 1536

/-- What an erased byte of the array reads (section 11.1). -/
def erasedByte : Byte := 0xFF#8

end Sys2Proof.Machine
end

