-- ==== Sys2Proof/Machine/State.lean ====
section
/-! DEFINITION. The state of the NL-848 as plain data, the reasons a step can stop, and the state after reset. Each field is
listed with its rule in INVENTORY.md under "State". -/

namespace Sys2Proof.Machine

/-- Why a step stops with a fault. The spec names no event after which the controller stops, so there is no fault. -/
inductive Fault where
deriving DecidableEq, Repr

/-- Why a command has no meaning. -/
inductive Refusal
  /-- Raised by an arm of exec that has no meaning yet. Safe: no next state is claimed. -/
  | notModelled (mnemonic : String)
deriving DecidableEq, Repr

/-! ### Mode Controller -/

/-- The device mode (section 2.1). -/
inductive Mode
  | startup
  | standby
  | operate
  | safeHold
deriving DecidableEq, Repr

/-- Why the device is in SAFE_HOLD (R25). -/
inductive SafeCause
  | none
  | host
  | keepalive
deriving DecidableEq, Repr

/-! ### Configuration registers -/

/-- The four registers of an image, first byte the high byte of `w0` (R92, R111). -/
structure Image where
  w0 : Word
  w1 : Word
  w2 : Word
  w3 : Word
deriving DecidableEq, Repr

/-- The read-write registers of one port, at offsets 0x00 to 0x0F (section 12.6). -/
structure PortConfig where
  portMode : Word
  feedGuard : Word
  signalGuard : Word
  safeAction : Word
  lineConfig : Word
  quota : Word
  attnMask : Word
  expectClass : Word
  expectIdHi : Word
  expectIdLo : Word
  outputLen : Word
  outputImage : Image
deriving DecidableEq, Repr

/-- Every stored configuration register and the auto-arm setting (the table of R178). -/
structure Settings where
  deviceSettings : Word
  attnFloor : Word
  attnPriority : Vector Word 4
  journalConfig : Word
  autoArm : BitVec 4
  ports : Eight PortConfig
deriving DecidableEq, Repr

/-! ### Guarded outputs and receivers -/

/-- The protection states (R48). -/
inductive OutState
  | disabled
  | engaged
  | limiting
  | tripped
  | latched
  | inhibited
deriving DecidableEq, Repr

/-- One guarded output: its state, consecutive-trip count and trip counter, and the length of the one timer its state runs
(settle, cut-off or restart), if it runs (R48). -/
structure Output where
  state : OutState
  count : Byte
  trips : Word
  timer : Option Nat
deriving DecidableEq, Repr

/-- The receiver of a direct mode: LEVEL, and the length of the debounce timer while it runs (R65, R66). -/
structure Receiver where
  level : Bool
  settling : Option Nat
deriving DecidableEq, Repr

/-! ### Line engines -/

/-- The engine states (R101). -/
inductive EngState
  | detached
  | waking
  | bound
  | paused
  | lost
  | held
deriving DecidableEq, Repr

/-- The REASON codes (R102). -/
inductive Reason
  | none
  | feedOff
  | signalOff
  | supply
  | mode
  | standby
  | noNode
  | failures
  | version
  | identity
  | imageLength
  | cycle
  | host
deriving DecidableEq, Repr

/-- The kinds of exchange (R96). -/
inductive ExchKind
  | wake
  | poll
  | ask
deriving DecidableEq, Repr

/-- The phases of an attempt (R96): waiting for the turnaround, sending, and listening or receiving. -/
inductive ExchPhase
  | waiting
  | sending
  | listening
deriving DecidableEq, Repr

/-- An exchange in progress (R96): its kind, SEQ and parcel bytes, the attempts begun, the attempt limit and the phase. -/
structure Exchange where
  kind : ExchKind
  seq : BitVec 2
  parcel : List Byte
  attempts : Nat
  limit : Nat
  phase : ExchPhase
deriving DecidableEq, Repr

/-- The line state of a port (R100), with the trailing HUSH (R119) and the rate it is sent at. `turnaround` is set while the
turnaround after the last judged parcel runs (R88). -/
structure LineState where
  exchange : Option Exchange
  seq : BitVec 2
  rate : Option (BitVec 2)
  turnaround : Bool
  hush : Option (BitVec 2)
deriving DecidableEq, Repr

/-- The tick, wake spacing and rebind delay timers, of which at most one runs (chapter 6). -/
inductive EngTimer
  | none
  | tick (ms : Nat)
  | spacing
  | rebind
deriving DecidableEq, Repr

/-- One line engine (chapter 6). `due` is the bind due of a DETACHED engine (R103) and the rebind due of a LOST one (R115). -/
structure Engine where
  state : EngState
  reason : Reason
  pauseRequested : Bool
  line : LineState
  timer : EngTimer
  wakeCount : Nat
  failCount : Nat
  valid : Bool
  fault : Bool
  notice : Bool
  due : Bool
  nodeClass : Word
  nodeId : BitVec 32
  inputLen : Byte
  inputImage : Image
  retryCount : Word
  failedExchanges : Word
  missedTicks : Word
deriving DecidableEq, Repr

/-! ### Request pool -/

/-- Who asked for a slot (R124). -/
inductive Origin
  | host
  | notice
deriving DecidableEq, Repr

/-- The operations of a slot (R124). -/
inductive Op
  | readParam
  | writeParam
  | fetchNotice
deriving DecidableEq, Repr

/-- The record of a held slot (R124); the owner is the port whose list holds it. -/
structure Request where
  slot : Fin 32
  origin : Origin
  tag : Byte
  op : Op
  index : Word
  subindex : Byte
  data : List Byte
deriving DecidableEq, Repr

/-- How a slot completed (R124): the node result code and reply data exist only for DONE_OK. -/
inductive SlotOutcome
  | doneOk (result : Byte) (reply : List Byte)
  | failed
  | abandoned
deriving DecidableEq, Repr

/-- A slot of a done list. -/
structure DoneSlot where
  request : Request
  outcome : SlotOutcome
deriving DecidableEq, Repr

/-! ### One port -/

/-- All live state of one port: its two outputs, receiver, line engine, PORT_CONDITION, and its part of the pool (R125), the
queue and the done list with the oldest first. -/
structure Port where
  feed : Output
  signal : Output
  rx : Receiver
  engine : Engine
  condition : Word
  queue : List Request
  inFlight : Option Request
  done : List DoneSlot
deriving DecidableEq, Repr

/-! ### Supervisor -/

/-- The field state (R72). The restore settle timer runs exactly in RESTORING (R73). -/
inductive FieldState
  | good
  | low
  | restoring
deriving DecidableEq, Repr

/-- The Supervisor (chapter 4): field state, thermal state and restore-attempt count. -/
structure Supervisor where
  field : FieldState
  hot : Bool
  attempts : Byte
deriving DecidableEq, Repr

/-! ### Event journal -/

/-- One journal entry (section 8.1). -/
structure Entry where
  seq : Word
  time : BitVec 32
  source : Byte
  code : Byte
  gap : Byte
  detail : List Byte
deriving DecidableEq, Repr

/-- Why the journal calls for attention in the step in progress (R143). -/
inductive JournalCall
  | threshold
  | refusal
deriving DecidableEq, Repr

/-- The journal (chapter 8), oldest entry first. `call` lives within one step only: it is `none` after every step. -/
structure Journal where
  entries : List Entry
  nextSeq : Word
  refusals : Byte
  lost : Word
  call : Option JournalCall
deriving DecidableEq, Repr

/-! ### Attention controller -/

/-- The fifteen attention sources (section 9.1). -/
inductive Source
  | port (p : Fin 8)
  | link
  | journal
  | keepalive
  | supply
  | thermal
  | store
  | mode
deriving DecidableEq, Repr

/-- The latch of a source 8 to 14 (R152): last code and mark count; empty when the count is 0. -/
structure CodeLatch where
  last : Byte
  count : Byte
deriving DecidableEq, Repr

/-- The latches of sources 8 to 14. -/
structure CodeLatches where
  link : CodeLatch
  journal : CodeLatch
  keepalive : CodeLatch
  supply : CodeLatch
  thermal : CodeLatch
  store : CodeLatch
  mode : CodeLatch
deriving DecidableEq, Repr

/-- The content of a latch of either kind: a set of port causes (R153) or a code record (R154). -/
inductive Latch
  | causes (set : BitVec 10)
  | codes (record : CodeLatch)
deriving DecidableEq, Repr

/-- An entry of the in-service stack (R159). -/
structure StackEntry where
  source : Source
  priority : BitVec 3
deriving DecidableEq, Repr

/-- A claim that waits for its commit, with its late record (R157, R158). -/
structure Claim where
  source : Source
  priority : BitVec 3
  late : Latch
deriving DecidableEq, Repr

/-- The attention controller (chapter 9); the stack's top entry stands first. -/
structure Attention where
  causes : Eight (BitVec 10)
  codes : CodeLatches
  stack : List StackEntry
  claim : Option Claim
deriving DecidableEq, Repr

/-! ### Keepalive supervisor -/

/-- The keepalive states (R165). -/
inductive KaState
  | disarmed
  | armed
  | warned
  | expired
  | suspended
deriving DecidableEq, Repr

/-- The keepalive (R165): its state, the recorded period code and the whole milliseconds its timer has run. -/
structure Keepalive where
  state : KaState
  period : BitVec 3
  elapsedMs : Nat
deriving DecidableEq, Repr

/-! ### Settings store -/

/-- The two banks (section 11.1). -/
inductive Bank
  | a
  | b
deriving DecidableEq, Repr

/-- The state of a bank (R183). -/
inductive BankState
  | invalid
  | valid
  | bad
deriving DecidableEq, Repr

/-- A commit in progress (R179): its target, the generation of its image and the snapshot. -/
structure CommitJob where
  target : Bank
  generation : Word
  snapshot : Settings
deriving DecidableEq, Repr

/-- The commit machine (section 11.3). -/
inductive Commit
  | idle
  | erasing (job : CommitJob)
  | programming (job : CommitJob)
  | verifying (job : CommitJob)
deriving DecidableEq, Repr

/-- That a bank's bytes at the offsets from `first` up to but not including `stop` are what a failed or abandoned phase left
(R180, R181): the bytes are `Config.leftByte epoch`. The phase did not touch the others. -/
structure LeftOver where
  epoch : Nat
  first : Nat
  stop : Nat
deriving DecidableEq, Repr

/-- The settings store (chapter 11). `cells` holds the bytes of the array that are not erased, addresses rising. -/
structure Store where
  cells : List Host.Cell
  leftA : Option LeftOver
  leftB : Option LeftOver
  bankA : BankState
  bankB : BankState
  current : Option Bank
  generation : Word
  factoryValid : Bool
  revision : Word
  commit : Commit
  lastResult : BitVec 3
deriving DecidableEq, Repr

/-! ### Host link -/

/-- A reply (section 1.1); its CHECK byte follows from it (R3). -/
structure Reply where
  status : Byte
  tag : Byte
  payload : List Byte
deriving DecidableEq, Repr

/-- What the FETCH in its reply phase delivered (R14). -/
inductive Delivery
  | nothing
  | slot (p : Fin 8) (number : Fin 32)
  | entry (seq : Word)
  | claim
deriving DecidableEq, Repr

/-- The frame decoder: idle, in the reply phase of a frame (with whether LINK_STATUS records it, and what it delivered), or
ignoring the rest of an abandoned frame until CS is released (R16, R24). -/
inductive FramePhase
  | idle
  | replying (reply : Reply) (recorded : Bool) (delivery : Delivery)
  | ignoring
deriving DecidableEq, Repr

/-- The link fault capture (R19). -/
structure Capture where
  held : Bool
  overflow : Bool
  kind : BitVec 3
  code : Byte
  tag : Byte
  address : Word
  time : Word
deriving DecidableEq, Repr

/-- The pending confirmation (section 1.8); its lapse timer runs while it exists. -/
structure Pending where
  code : Byte
  args : List Byte
  tag : Byte
deriving DecidableEq, Repr

/-- The host link (chapter 1). -/
structure Link where
  unit : BitVec 3
  lastTag : Byte
  lastKind : BitVec 3
  replyCut : Bool
  rejects : Word
  runts : Word
  capture : Capture
  confirm : Option Pending
  phase : FramePhase
deriving DecidableEq, Repr

/-! ### Inputs from outside -/

/-- The field side as the last events reported it: VFIELD above 19.5 V, the raw level of each SIGNAL line, and the current in
milliamperes that the load of each output draws while the output drives it unlimited. -/
structure Pins where
  vfieldHigh : Bool
  raw : Eight Bool
  loadFeed : Eight Nat
  loadSignal : Eight Nat
deriving DecidableEq, Repr

/-! ### The machine -/

/-- The whole controller, with its input pins and the queue of commands that wait. `resetLine` is set during a reset interval
(R184); `resetCause` is RESET_CAUSE (R186); `free` counts the free values taken. -/
structure State where
  mode : Mode
  safeCause : SafeCause
  deviceCondition : Word
  resetCause : BitVec 2
  resetLine : Option ResetLine
  cfg : Settings
  link : Link
  ports : Eight Port
  sup : Supervisor
  journal : Journal
  timeBase : BitVec 32
  attn : Attention
  atn : Bool
  ka : Keepalive
  store : Store
  pins : Pins
  free : Nat
  pending : List Instr
deriving DecidableEq, Repr

/-! ### Reset values -/

/-- An image of zeros. -/
def Image.zero : Image := ⟨0#16, 0#16, 0#16, 0#16⟩

/-- The factory defaults of one port (section 12.6). -/
def PortConfig.factory : PortConfig where
  portMode := factoryPortMode
  feedGuard := factoryGuard
  signalGuard := factoryGuard
  safeAction := factorySafeAction
  lineConfig := factoryLineConfig
  quota := factoryQuota
  attnMask := factoryAttnMask
  expectClass := 0#16
  expectIdHi := 0#16
  expectIdLo := 0#16
  outputLen := 0#16
  outputImage := Image.zero

/-- The factory defaults (section 12.6). -/
def Settings.factory : Settings where
  deviceSettings := 0#16
  attnFloor := 0#16
  attnPriority := Vector.replicate 4 0#16
  journalConfig := factoryJournalConfig
  autoArm := 0#4
  ports := Eight.all PortConfig.factory

/-- An output after a device reset (R71). -/
def Output.reset : Output := ⟨.disabled, 0#8, 0#16, none⟩

/-- A receiver after a device reset (R71). -/
def Receiver.reset : Receiver := ⟨false, none⟩

/-- The line state after its reset (R100). -/
def LineState.reset : LineState := ⟨none, 0#2, none, false, none⟩

/-- An engine after a device reset or PORT_RESET (R123). -/
def Engine.reset : Engine where
  state := .detached
  reason := .none
  pauseRequested := false
  line := LineState.reset
  timer := .none
  wakeCount := 0
  failCount := 0
  valid := false
  fault := false
  notice := false
  due := false
  nodeClass := 0#16
  nodeId := 0#32
  inputLen := 0#8
  inputImage := Image.zero
  retryCount := 0#16
  failedExchanges := 0#16
  missedTicks := 0#16

/-- A port after a device reset. -/
def Port.reset : Port where
  feed := Output.reset
  signal := Output.reset
  rx := Receiver.reset
  engine := Engine.reset
  condition := 0#16
  queue := []
  inFlight := none
  done := []

/-- An empty code latch (R152). -/
def CodeLatch.empty : CodeLatch := ⟨0#8, 0#8⟩

/-- The attention controller after a device reset (R164). -/
def Attention.reset : Attention where
  causes := Eight.all 0#10
  codes := ⟨.empty, .empty, .empty, .empty, .empty, .empty, .empty⟩
  stack := []
  claim := none

/-- The keepalive after a device reset (R174). -/
def Keepalive.reset : Keepalive := ⟨.disarmed, 0#3, 0⟩

/-- The empty link fault capture (R24). -/
def Capture.empty : Capture := ⟨false, false, 0#3, 0#8, 0#8, 0#16, 0#16⟩

/-- The host link after a device reset that sampled `straps` (R24). -/
def Link.reset (straps : BitVec 3) : Link where
  unit := straps
  lastTag := 0#8
  lastKind := 0#3
  replyCut := false
  rejects := 0#16
  runts := 0#16
  capture := Capture.empty
  confirm := none
  phase := .idle

/-- The store of a part whose array is erased, before its load (R183; notes/assumptions/8.md). -/
def Store.erased : Store where
  cells := []
  leftA := none
  leftB := none
  bankA := .invalid
  bankB := .invalid
  current := none
  generation := 0#16
  factoryValid := false
  revision := 0#16
  commit := .idle
  lastResult := 0#3

/-- The machine right after the reset step of a power-on (R185): in STARTUP, RESET_OCCURRED set, RESET_CAUSE POWER and the
POWER_UP entry recorded, with unit number 0, the field supply good, the die cool, the lines low and the array erased
(notes/assumptions/7.md, 8.md). -/
def State.reset : State where
  mode := .startup
  safeCause := .none
  deviceCondition := 0x0010#16
  resetCause := 1#2
  resetLine := none
  cfg := Settings.factory
  link := Link.reset 0#3
  ports := Eight.all Port.reset
  sup := ⟨.good, false, 0#8⟩
  journal := ⟨[⟨0#16, 0#32, 9#8, 0x01#8, 0#8, [1#8]⟩], 1#16, 0#8, 0#16, none⟩
  timeBase := 0#32
  attn := Attention.reset
  atn := false
  ka := Keepalive.reset
  store := Store.erased
  pins := ⟨true, Eight.all false, Eight.all 0, Eight.all 0⟩
  free := 0
  pending := []

end Sys2Proof.Machine
end

