-- ==== Sys2Proof/Machine/Ops.lean ====
section
/-! DEFINITION. The named operations over the state: access to ports and settings, recording in the journal (R139 to R143),
marking attention (R152 to R156), and what closes every step. -/

namespace Sys2Proof.Machine

/-! ### Access to the parts of the state -/

/-- The ports 0 to 7 in turn (R37). -/
def allPorts : List (Fin 8) := [0, 1, 2, 3, 4, 5, 6, 7]

/-- One operation taken for every port in turn (R37). -/
def State.forPorts (s : State) (f : Fin 8 → State → State) : State := allPorts.foldl (fun t p => f p t) s

/-- The live state of a port. -/
def State.port (s : State) (p : Fin 8) : Port := s.ports.get p

/-- The configuration of a port. -/
def State.conf (s : State) (p : Fin 8) : PortConfig := s.cfg.ports.get p

/-- The engine of a port. -/
def State.engine (s : State) (p : Fin 8) : Engine := (s.port p).engine

/-- The state with one port changed. -/
def State.modPort (s : State) (p : Fin 8) (f : Port → Port) : State :=
  { s with ports := s.ports.set p (f (s.ports.get p)) }

/-- The state with one port's engine changed. -/
def State.modEngine (s : State) (p : Fin 8) (f : Engine → Engine) : State :=
  s.modPort p (fun pt => { pt with engine := f pt.engine })

/-- The state with one port's line state changed. -/
def State.modLine (s : State) (p : Fin 8) (f : LineState → LineState) : State :=
  s.modEngine p (fun e => { e with line := f e.line })

/-- The state with the journal changed. -/
def State.modJournal (s : State) (f : Journal → Journal) : State := { s with journal := f s.journal }

/-- The state with the attention controller changed. -/
def State.modAttn (s : State) (f : Attention → Attention) : State := { s with attn := f s.attn }

/-- The state with the host link changed. -/
def State.modLink (s : State) (f : Link → Link) : State := { s with link := f s.link }

/-- The state with the store changed. -/
def State.modStore (s : State) (f : Store → Store) : State := { s with store := f s.store }

/-- The state with the keepalive changed. -/
def State.modKa (s : State) (f : Keepalive → Keepalive) : State := { s with ka := f s.ka }

/-- The state with the Supervisor changed. -/
def State.modSup (s : State) (f : Supervisor → Supervisor) : State := { s with sup := f s.sup }

/-- The state with the input pins changed. -/
def State.modPins (s : State) (f : Pins → Pins) : State := { s with pins := f s.pins }

/-- The state with the configuration changed. -/
def State.modCfg (s : State) (f : Settings → Settings) : State := { s with cfg := f s.cfg }

/-- A guarded output of a port. -/
def Port.out (pt : Port) : Out → Output
  | .feed => pt.feed
  | .signal => pt.signal

/-- A port with one of its outputs replaced. -/
def Port.setOut (pt : Port) (o : Out) (x : Output) : Port :=
  match o with
  | .feed => { pt with feed := x }
  | .signal => { pt with signal := x }

/-- The state with one output replaced. -/
def State.setOut (s : State) (p : Fin 8) (o : Out) (x : Output) : State := s.modPort p (fun pt => pt.setOut o x)

/-- The inhibit line (R75): asserted exactly while a low period or a hot period is in progress. -/
def State.inhibit (s : State) : Bool := s.sup.field != .good || s.sup.hot

/-- An output conducts while it is ENGAGED or LIMITING (R48). -/
def OutState.conducts : OutState → Bool
  | .engaged => true
  | .limiting => true
  | _ => false

/-- A pool slot held by a port. -/
def Port.held (pt : Port) : List Request :=
  pt.queue ++ pt.inFlight.toList ++ pt.done.map DoneSlot.request

/-- The held count of a port (R125). -/
def Port.heldCount (pt : Port) : Nat := pt.queue.length + pt.inFlight.toList.length + pt.done.length

/-! ### The journal -/

/-- The classes of events, in the order of the CLASSES bits (section 8.2). -/
inductive JClass
  | output
  | supply
  | line
  | request
  | link
  | keepalive
  | device
  | store
  | host
deriving DecidableEq, Repr

/-- The CLASSES bit of a class. -/
def classBit : JClass → Nat
  | .output => 0
  | .supply => 1
  | .line => 2
  | .request => 3
  | .link => 4
  | .keepalive => 5
  | .device => 6
  | .store => 7
  | .host => 8

/-- A named event as the journal sees it (R148); `edge` marks INPUT_EDGE. -/
structure Event where
  cls : JClass
  edge : Bool
  source : Byte
  code : Byte
  detail : List Byte
deriving DecidableEq, Repr

/-- An event is admitted when its class is enabled; INPUT_EDGE needs EDGES besides (R139). -/
def admitted (config : Word) (e : Event) : Bool :=
  config.getLsbD (classBit e.cls) && (!e.edge || config.getLsbD 9)

/-- POLICY is HALT (section 8.2). -/
def haltPolicy (config : Word) : Bool := config.getLsbD 10

/-- The threshold of JOURNAL_CONFIG, 1 to 32 (section 8.2). -/
def threshold (config : Word) : Nat := field config 11 5 + 1

/-- What became of an event (R139, R140, R142). -/
inductive Recording
  | recorded (seq : Word)
  | filtered
  | refused
deriving DecidableEq, Repr

/-- What the journal will do with an event. -/
def Journal.judge (j : Journal) (config : Word) (e : Event) : Recording :=
  if admitted config e = false then .filtered
  else if journalCapacity ≤ j.entries.length && haltPolicy config then .refused
  else .recorded j.nextSeq

/-- The entry an event becomes (R140). -/
def Journal.entryOf (j : Journal) (time : BitVec 32) (e : Event) : Entry :=
  ⟨j.nextSeq, time, e.source, e.code, j.refusals, e.detail⟩

/-- An event judged against the journal and filtered, recorded, recorded over the oldest entry, or refused (R139 to R142),
with the call for attention it gives rise to (R143); a refusal's call takes precedence. -/
def Journal.put (j : Journal) (config : Word) (time : BitVec 32) (e : Event) : Journal :=
  match j.judge config e with
  | .filtered => j
  | .refused =>
    { j with
      refusals := bump8 j.refusals
      lost := bump16 j.lost
      call := if j.refusals = 0#8 then some .refusal else j.call }
  | .recorded _ =>
    if journalCapacity ≤ j.entries.length then
      { j with
        entries := j.entries.drop 1 ++ [j.entryOf time e]
        nextSeq := j.nextSeq + 1#16
        refusals := 0#8
        lost := bump16 j.lost }
    else
      { j with
        entries := j.entries ++ [j.entryOf time e]
        nextSeq := j.nextSeq + 1#16
        refusals := 0#8
        call :=
          if j.call = some .refusal then j.call
          else if j.entries.length + 1 = threshold config then some .threshold else j.call }

/-- An event raised in the step in progress, at position 6 of the cascade order (R37). -/
def State.log (s : State) (e : Event) : State :=
  s.modJournal (fun j => j.put s.cfg.journalConfig s.timeBase e)

/-- An event raised under a condition. -/
def State.logIf (s : State) (c : Bool) (e : Event) : State := if c then s.log e else s

/-! ### Attention -/

/-- The number of a source (section 9.1). -/
def sourceNumber : Source → Nat
  | .port p => p.val
  | .link => 8
  | .journal => 9
  | .keepalive => 10
  | .supply => 11
  | .thermal => 12
  | .store => 13
  | .mode => 14

/-- The fifteen sources in number order (section 9.1). -/
def allSources : List Source :=
  allPorts.map Source.port ++ [.link, .journal, .keepalive, .supply, .thermal, .store, .mode]

/-- The source of a number 0 to 14 (R161). -/
def sourceOf (n : Nat) : Option Source := allSources[n]?

/-- The latch of a source (R152). -/
def Attention.latch (a : Attention) : Source → Latch
  | .port p => .causes (a.causes.get p)
  | .link => .codes a.codes.link
  | .journal => .codes a.codes.journal
  | .keepalive => .codes a.codes.keepalive
  | .supply => .codes a.codes.supply
  | .thermal => .codes a.codes.thermal
  | .store => .codes a.codes.store
  | .mode => .codes a.codes.mode

/-- The set of causes in a latch; none in a code record. -/
def Latch.causeSet : Latch → BitVec 10
  | .causes c => c
  | .codes _ => 0#10

/-- The code record in a latch; the empty one in a set of causes. -/
def Latch.record : Latch → CodeLatch
  | .causes _ => CodeLatch.empty
  | .codes r => r

/-- The attention controller with the latch of a source replaced. -/
def Attention.setLatch (a : Attention) (src : Source) (l : Latch) : Attention :=
  match src with
  | .port p => { a with causes := a.causes.set p l.causeSet }
  | .link => { a with codes := { a.codes with link := l.record } }
  | .journal => { a with codes := { a.codes with journal := l.record } }
  | .keepalive => { a with codes := { a.codes with keepalive := l.record } }
  | .supply => { a with codes := { a.codes with supply := l.record } }
  | .thermal => { a with codes := { a.codes with thermal := l.record } }
  | .store => { a with codes := { a.codes with store := l.record } }
  | .mode => { a with codes := { a.codes with mode := l.record } }

/-- The empty latch of a source's kind (R152). -/
def emptyLatch : Source → Latch
  | .port _ => .causes 0#10
  | _ => .codes CodeLatch.empty

/-- A latch holds something (R152). -/
def Latch.nonempty : Latch → Bool
  | .causes c => c != 0#10
  | .codes r => r.count != 0#8

/-- The two bytes in which a latch is delivered (R157), as one number. -/
def Latch.word : Latch → Word
  | .causes c => c.setWidth 16
  | .codes r => wordOf r.last r.count

/-- A latch with one cause added (R153). -/
def Latch.addCause (l : Latch) (cause : Fin 10) : Latch :=
  .causes (l.causeSet ||| (1#10 <<< cause.val))

/-- A code record with one mark added (R154). -/
def Latch.addCode (l : Latch) (code : Byte) : Latch :=
  .codes ⟨code, bump8 l.record.count⟩

/-- A change of a source's latch by a mark, applied to the late record of a claim of that source as well (R158). -/
def Attention.mark (a : Attention) (src : Source) (f : Latch → Latch) : Attention :=
  { a.setLatch src (f (a.latch src)) with
    claim :=
      match a.claim with
      | some c => if c.source = src then some { c with late := f c.late } else some c
      | none => none }

/-- A port cause raised: latched if PORT_ATTN_MASK admits it (R153). -/
def State.cause (s : State) (p : Fin 8) (cause : Fin 10) : State :=
  if (s.conf p).attnMask.getLsbD cause.val then s.modAttn (fun a => a.mark (.port p) (fun l => l.addCause cause)) else s

/-- A port cause raised under a condition. -/
def State.causeIf (s : State) (c : Bool) (p : Fin 8) (k : Fin 10) : State := if c then s.cause p k else s

/-- A source 8 to 14 marked with a cause code (R154). -/
def State.mark (s : State) (src : Source) (code : Byte) : State :=
  s.modAttn (fun a => a.mark src (fun l => l.addCode code))

/-- The present priority of a source (R155). -/
def Settings.priority (c : Settings) (src : Source) : BitVec 3 :=
  let n := sourceNumber src
  (c.attnPriority[n / 4]?.getD 0#16).extractLsb' (4 * (n % 4)) 3

/-- The ceiling (R155): the larger of the floor and the top entry's priority at claim. -/
def State.ceiling (s : State) : Nat :=
  max (field s.cfg.attnFloor 0 3) ((s.attn.stack.head?.map (fun e => e.priority.toNat)).getD 0)

/-- A source is pending exactly while its latch is not empty (R152). -/
def State.isPending (s : State) (src : Source) : Bool := (s.attn.latch src).nonempty

/-- A source is deliverable while it is pending and its priority is above the ceiling (R155). -/
def State.deliverable (s : State) (src : Source) : Bool :=
  s.isPending src && decide (s.ceiling < (s.cfg.priority src).toNat)

/-- Some source is deliverable (R156). -/
def State.anyDeliverable (s : State) : Bool := allSources.any s.deliverable

/-! ### The end of every step -/

/-- The JOURNAL source marked at most once in the step (R143), and the call forgotten. -/
def State.callJournal (s : State) : State :=
  match s.journal.call with
  | none => s
  | some c =>
    let s := s.mark .journal (match c with | .threshold => 1#8 | .refusal => 2#8)
    s.modJournal (fun j => { j with call := none })

/-- What closes every step: the journal's mark and the judgement of the ATN pin (R143, R156). -/
def State.finish (s : State) : State :=
  let s := s.callJournal
  { s with atn := s.anyDeliverable }

/-- An event taken as one step, unless a reset interval is in progress, in which no event is taken (R184). -/
def takeEvent (f : State → State) (s : State) : Host.Outcome State Fault Refusal :=
  .next (if s.resetLine.isSome then s else (f s).finish)

end Sys2Proof.Machine
end

