-- ==== Sys2Proof/Machine/Codes.lean ====
section
/-! DEFINITION. The number codes of the states, modes and reasons, the fields of the configuration registers, and the event
catalogue (R148). -/

namespace Sys2Proof.Machine

/-! ### Codes -/

/-- The MODE codes (section 2.1). -/
def modeCode : Mode → Nat
  | .startup => 0
  | .standby => 1
  | .operate => 2
  | .safeHold => 3

/-- The SAFE_CAUSE codes (R25). -/
def safeCauseCode : SafeCause → Nat
  | .none => 0
  | .host => 1
  | .keepalive => 2

/-- The output states (R48). -/
def outStateCode : OutState → Nat
  | .disabled => 0
  | .engaged => 1
  | .limiting => 2
  | .tripped => 3
  | .latched => 4
  | .inhibited => 5

/-- The ENGINE codes (R101). -/
def engStateCode : EngState → Nat
  | .detached => 0
  | .waking => 1
  | .bound => 2
  | .paused => 3
  | .lost => 4
  | .held => 5

/-- The REASON codes (R102). -/
def reasonCode : Reason → Nat
  | .none => 0
  | .feedOff => 1
  | .signalOff => 2
  | .supply => 3
  | .mode => 4
  | .standby => 5
  | .noNode => 6
  | .failures => 7
  | .version => 8
  | .identity => 9
  | .imageLength => 10
  | .cycle => 11
  | .host => 12

/-- The FIELD_STATE codes (R81). -/
def fieldStateCode : FieldState → Nat
  | .good => 0
  | .low => 1
  | .restoring => 2

/-- The keepalive STATE codes (R165). -/
def kaStateCode : KaState → Nat
  | .disarmed => 0
  | .armed => 1
  | .warned => 2
  | .expired => 3
  | .suspended => 4

/-- The bank numbers (R183). -/
def bankCode : Bank → Nat
  | .a => 1
  | .b => 2

/-- The bank state codes (R183). -/
def bankStateCode : BankState → Nat
  | .invalid => 0
  | .valid => 1
  | .bad => 2

/-- The COMMIT_STATE codes (R183). -/
def commitCode : Commit → Nat
  | .idle => 0
  | .erasing _ => 1
  | .programming _ => 2
  | .verifying _ => 3

/-- The op codes (R124). -/
def opCode : Op → Nat
  | .readParam => 1
  | .writeParam => 2
  | .fetchNotice => 3

/-- The outcome codes (R133). -/
def outcomeCode : SlotOutcome → Nat
  | .doneOk _ _ => 1
  | .failed => 2
  | .abandoned => 3

/-- The parcel TYPE of a request of each kind (section 5.3). -/
def kindType : ExchKind → Nat
  | .wake => 1
  | .poll => 3
  | .ask => 5

/-- The origin and op byte of a slot (R133). -/
def originOp (r : Request) : Byte :=
  (match r.origin with | .host => 0x00#8 | .notice => 0x80#8) ||| BitVec.ofNat 8 (opCode r.op)

/-- A byte holding a code. -/
def byteOf (n : Nat) : Byte := BitVec.ofNat 8 n

/-! ### Configuration fields -/

/-- SIGNAL_MODE (section 2.3): 0 OFF, 1 SENSE, 2 SOURCE, 3 SINK, 4 PUSH_PULL, 5 TETHER. -/
def PortConfig.signalMode (c : PortConfig) : Nat := field c.portMode 0 3

/-- The mode is TETHER. -/
def PortConfig.tether (c : PortConfig) : Bool := c.signalMode == 5

/-- The mode is a driving mode (section 2.3). -/
def drivingMode (m : Nat) : Bool := 2 ≤ m && m ≤ 5

/-- The mode is SOURCE, SINK or PUSH_PULL. -/
def directDrivingMode (m : Nat) : Bool := 2 ≤ m && m ≤ 4

/-- The mode is SENSE, SOURCE, SINK or PUSH_PULL, in which the debounce runs (R66). -/
def debouncedMode (m : Nat) : Bool := 1 ≤ m && m ≤ 4

/-- FEED_ENABLE (section 3.8). -/
def PortConfig.feedEnable (c : PortConfig) : Bool := c.portMode.getLsbD 3

/-- DRIVE_LEVEL (section 3.8). -/
def PortConfig.driveLevel (c : PortConfig) : Bool := c.portMode.getLsbD 4

/-- AUTO_BIND (section 3.8). -/
def PortConfig.autoBind (c : PortConfig) : Bool := c.portMode.getLsbD 5

/-- AUTO_REBIND (section 3.8). -/
def PortConfig.autoRebind (c : PortConfig) : Bool := c.portMode.getLsbD 6

/-- The DEBOUNCE code (section 3.8). -/
def PortConfig.debounce (c : PortConfig) : Nat := field c.portMode 8 2

/-- FEED_GUARD or SIGNAL_GUARD (section 3.7). -/
def PortConfig.guard (c : PortConfig) : Out → Word
  | .feed => c.feedGuard
  | .signal => c.signalGuard

/-- The CURRENT code of a guard register (section 3.7). -/
def guardCurrent (g : Word) : Nat := field g 0 2

/-- A guard register with the CURRENT code of another. -/
def guardWithCurrent (g source : Word) : Word := (g &&& 0xFFFC#16) ||| (source &&& 0x0003#16)

/-- The CUTOFF code of a guard register. -/
def guardCutoff (g : Word) : Nat := field g 2 2

/-- The RESTART code of a guard register. -/
def guardRestart (g : Word) : Nat := field g 4 2

/-- The BUDGET of a guard register. -/
def guardBudget (g : Word) : Nat := field g 8 4

/-- SAFE_FEED is KEEP (section 10.3). -/
def PortConfig.safeFeedKeep (c : PortConfig) : Bool := c.safeAction.getLsbD 0

/-- SAFE_SIGNAL (section 10.3): 0 LOW, 1 HIGH, 2 HOLD, 3 RELEASE. -/
def PortConfig.safeSignal (c : PortConfig) : Nat := field c.safeAction 4 2

/-- SAFE_TETHER is SAFE_POLL (section 10.3). -/
def PortConfig.safePoll (c : PortConfig) : Bool := c.safeAction.getLsbD 8

/-- RATE (section 5.1). -/
def PortConfig.rate (c : PortConfig) : BitVec 2 := c.lineConfig.extractLsb' 0 2

/-- CYCLE (section 5.1). -/
def PortConfig.cycle (c : PortConfig) : Nat := field c.lineConfig 2 3

/-- RETRY_LIMIT (section 5.1). -/
def PortConfig.retryLimit (c : PortConfig) : Nat := field c.lineConfig 6 2

/-- FAIL_LIMIT (section 5.1). -/
def PortConfig.failLimit (c : PortConfig) : Nat := field c.lineConfig 8 4

/-- The expected node id (R105). -/
def PortConfig.expectId (c : PortConfig) : BitVec 32 := c.expectIdHi ++ c.expectIdLo

/-- The eight bytes of an image (R92). -/
def Image.bytes (i : Image) : List Byte := wordBytes i.w0 ++ wordBytes i.w1 ++ wordBytes i.w2 ++ wordBytes i.w3

/-- An image from up to eight bytes, the missing ones 0 (R111). -/
def imageOf (bytes : List Byte) : Image :=
  let at_ (n : Nat) : Byte := bytes[n]?.getD 0#8
  ⟨wordOf (at_ 0) (at_ 1), wordOf (at_ 2) (at_ 3), wordOf (at_ 4) (at_ 5), wordOf (at_ 6) (at_ 7)⟩

/-! ### The event catalogue (R148) -/

/-- The SOURCE byte of a port. -/
def portByte (p : Fin 8) : Byte := byteOf p.val

/-- An event of the device as a whole. -/
def deviceEvent (cls : JClass) (code : Byte) (detail : List Byte) : Event := ⟨cls, false, 9#8, code, detail⟩

/-- An event of a port. -/
def portEvent (cls : JClass) (p : Fin 8) (code : Byte) (detail : List Byte) : Event :=
  ⟨cls, false, portByte p, code, detail⟩

/-- An event of the keepalive. -/
def kaEvent (code : Byte) (detail : List Byte) : Event := ⟨.keepalive, false, 10#8, code, detail⟩

/-- An event of the store. -/
def storeEvent (code : Byte) (detail : List Byte) : Event := ⟨.store, false, 11#8, code, detail⟩

/-- An event of the link. -/
def linkEvent (code : Byte) (detail : List Byte) : Event := ⟨.link, false, 8#8, code, detail⟩

/-- POWER_UP: 1 POWER, 2 PIN. -/
def evPowerUp (cause : Byte) : Event := deviceEvent .device 0x01#8 [cause]

/-- SOFT_RESET: the MODE code before the reset. -/
def evSoftReset (mode : Mode) : Event := deviceEvent .device 0x02#8 [byteOf (modeCode mode)]

/-- PORT_RESET: the ENGINE code before the reset and the number of slots freed. -/
def evPortReset (p : Fin 8) (engine freed : Byte) : Event := portEvent .device p 0x03#8 [engine, freed]

/-- MODE_CHANGE: previous mode, new mode, cause. -/
def evModeChange (old new : Mode) (cause : Byte) : Event :=
  deviceEvent .device 0x04#8 [byteOf (modeCode old), byteOf (modeCode new), cause]

/-- JOURNAL_CLEARED: the entries removed. -/
def evJournalCleared (n : Nat) : Event := deviceEvent .device 0x05#8 [byteOf n]

/-- FEED_TRIP or SIGNAL_TRIP: consecutive-trip count and CURRENT code. -/
def evTrip (p : Fin 8) (o : Out) (count current : Byte) : Event :=
  portEvent .output p (match o with | .feed => 0x10#8 | .signal => 0x12#8) [count, current]

/-- FEED_LATCH or SIGNAL_LATCH: consecutive-trip count. -/
def evLatch (p : Fin 8) (o : Out) (count : Byte) : Event :=
  portEvent .output p (match o with | .feed => 0x11#8 | .signal => 0x13#8) [count]

/-- OUTPUT_RELEASED: 0 FEED, 1 SIGNAL. -/
def evReleased (p : Fin 8) (o : Out) : Event :=
  portEvent .output p 0x14#8 [match o with | .feed => 0#8 | .signal => 1#8]

/-- FIELD_LOW_BEGIN: engines detached. -/
def evFieldLowBegin (n : Nat) : Event := deviceEvent .supply 0x20#8 [byteOf n]

/-- FIELD_LOW_END: restore attempts, inhibit still asserted. -/
def evFieldLowEnd (attempts : Byte) (still : Bool) : Event :=
  deviceEvent .supply 0x21#8 [attempts, byteOf (bitNat still)]

/-- THERMAL_BEGIN: engines detached. -/
def evThermalBegin (n : Nat) : Event := deviceEvent .supply 0x22#8 [byteOf n]

/-- THERMAL_END: inhibit still asserted. -/
def evThermalEnd (still : Bool) : Event := deviceEvent .supply 0x23#8 [byteOf (bitNat still)]

/-- NODE_BOUND: node class, input and output image length. -/
def evNodeBound (p : Fin 8) (cls : Word) (inputLen outputLen : Byte) : Event :=
  portEvent .line p 0x30#8 [hiByte cls, loByte cls, inputLen, outputLen]

/-- NODE_LOST: reason and previous ENGINE code. -/
def evNodeLost (p : Fin 8) (r : Reason) (old : EngState) : Event :=
  portEvent .line p 0x31#8 [byteOf (reasonCode r), byteOf (engStateCode old)]

/-- NODE_HELD: reason and the value checked. -/
def evNodeHeld (p : Fin 8) (r : Reason) (value : Byte) : Event :=
  portEvent .line p 0x32#8 [byteOf (reasonCode r), value]

/-- NODE_DETACHED: reason and previous ENGINE code. -/
def evNodeDetached (p : Fin 8) (r : Reason) (old : EngState) : Event :=
  portEvent .line p 0x33#8 [byteOf (reasonCode r), byteOf (engStateCode old)]

/-- NODE_FAULT: no detail. -/
def evNodeFault (p : Fin 8) : Event := portEvent .line p 0x34#8 []

/-- MISSED_TICK: the TYPE of the exchange in progress. -/
def evMissedTick (p : Fin 8) (kind : ExchKind) : Event := portEvent .line p 0x35#8 [byteOf (kindType kind)]

/-- INPUT_EDGE: the new LEVEL; it needs EDGES besides LINE. -/
def evInputEdge (p : Fin 8) (level : Bool) : Event := ⟨.line, true, portByte p, 0x36#8, [byteOf (bitNat level)]⟩

/-- REQUEST_FAILED: slot, host request tag, origin and op. -/
def evRequestFailed (p : Fin 8) (r : Request) : Event :=
  portEvent .request p 0x40#8 [byteOf r.slot.val, r.tag, originOp r]

/-- REQUESTS_ABANDONED: the slots abandoned. -/
def evAbandoned (p : Fin 8) (n : Nat) : Event := portEvent .request p 0x41#8 [byteOf n]

/-- LINK_REJECT: reject code, kind, tag. -/
def evLinkReject (code : Byte) (kind : BitVec 3) (tag : Byte) : Event :=
  linkEvent 0x50#8 [code, byteOf kind.toNat, tag]

/-- CONFIRM_LAPSED: command code, tag of the record, cause (1 replaced, 2 timeout). -/
def evConfirmLapsed (c : Pending) (cause : Byte) : Event := linkEvent 0x51#8 [c.code, c.tag, cause]

/-- KA_ARMED: the period code. -/
def evKaArmed (period : BitVec 3) : Event := kaEvent 0x60#8 [byteOf period.toNat]

/-- KA_DISARMED: 1 KA_DISARM, 2 entry to STANDBY. -/
def evKaDisarmed (cause : Byte) : Event := kaEvent 0x61#8 [cause]

/-- KA_WARNING: the period code. -/
def evKaWarning (period : BitVec 3) : Event := kaEvent 0x62#8 [byteOf period.toNat]

/-- KA_EXPIRED: the period code. -/
def evKaExpired (period : BitVec 3) : Event := kaEvent 0x63#8 [byteOf period.toNat]

/-- STORE_LOADED: bank and generation. -/
def evStoreLoaded (bank : Bank) (gen : Word) : Event :=
  storeEvent 0x70#8 [byteOf (bankCode bank), hiByte gen, loByte gen]

/-- STORE_DEFAULTS_USED: 1 if the factory area was also found invalid. -/
def evDefaultsUsed (factoryInvalid : Bool) : Event := storeEvent 0x71#8 [byteOf (bitNat factoryInvalid)]

/-- STORE_PACKET_SKIPPED: packet ID and LEN found. -/
def evPacketSkipped (id len : Byte) : Event := storeEvent 0x72#8 [id, len]

/-- COMMIT_DONE: bank and new generation. -/
def evCommitDone (bank : Bank) (gen : Word) : Event :=
  storeEvent 0x73#8 [byteOf (bankCode bank), hiByte gen, loByte gen]

/-- COMMIT_FAILED: bank and failing step (1 ERASING, 2 PROGRAMMING, 3 VERIFYING). -/
def evCommitFailed (bank : Bank) (failing : Byte) : Event := storeEvent 0x74#8 [byteOf (bankCode bank), failing]

/-- HOST_MARK: software's code and detail (R147). -/
def evHostMark (code : Byte) (detail : List Byte) : Event := ⟨.host, false, 12#8, code, detail⟩

end Sys2Proof.Machine
end

