-- ==== Sys2Proof/Machine/Flags.lean ====
section
/-! DEFINITION. The sticky condition flags: setting (R43, R44), their underlying conditions (R46) and clearing (R45). -/

namespace Sys2Proof.Machine

/-! Bit positions (section 2.5). -/

def bitFieldLow : Nat := 0
def bitThermal : Nat := 1
def bitKeepaliveExpired : Nat := 2
def bitStoreFault : Nat := 3
def bitResetOccurred : Nat := 4

/-- The PORT_CONDITION bit of an output's *_TRIPPED flag. -/
def bitTripped : Out → Nat
  | .feed => 0
  | .signal => 2

/-- The PORT_CONDITION bit of an output's *_LATCHED flag. -/
def bitLatched : Out → Nat
  | .feed => 1
  | .signal => 3

def bitNodeLost : Nat := 4
def bitNodeHeld : Nat := 5
def bitNodeFault : Nat := 6
def bitMissedTick : Nat := 7
def bitRequestFailed : Nat := 8

/-- A register with one bit set. -/
def setBit (w : Word) (n : Nat) : Word := w ||| (1#16 <<< n)

/-- A DEVICE_CONDITION flag set (R43). -/
def State.setDeviceFlag (s : State) (n : Nat) : State := { s with deviceCondition := setBit s.deviceCondition n }

/-- A PORT_CONDITION flag set (R44). -/
def State.setPortFlag (s : State) (p : Fin 8) (n : Nat) : State :=
  s.modPort p (fun pt => { pt with condition := setBit pt.condition n })

/-- A register holding the named bits for which a condition holds. -/
def bitsWhere (l : List (Nat × Bool)) : Word :=
  l.foldl (fun w x => if x.2 then setBit w x.1 else w) 0#16

/-- The field supply is low (R72): LOW and RESTORING both belong to a low period. -/
def State.fieldIsLow (s : State) : Bool := s.sup.field != .good

/-- The underlying condition of STORE_FAULT (R46, R183). -/
def Store.faulty (st : Store) : Bool := !st.factoryValid || decide (2 ≤ st.lastResult.toNat)

/-- The DEVICE_CONDITION flags whose underlying condition holds (R46). -/
def State.deviceHolds (s : State) : Word :=
  bitsWhere
    [(bitFieldLow, s.fieldIsLow), (bitThermal, s.sup.hot),
     (bitKeepaliveExpired, s.mode == .safeHold && s.safeCause == .keepalive), (bitStoreFault, s.store.faulty)]

/-- An output is LIMITING or TRIPPED (R46). -/
def Output.troubled (x : Output) : Bool := x.state == .limiting || x.state == .tripped

/-- The PORT_CONDITION flags whose underlying condition holds (R46). -/
def Port.holds (pt : Port) : Word :=
  bitsWhere
    [(bitTripped .feed, pt.feed.troubled), (bitLatched .feed, pt.feed.state == .latched),
     (bitTripped .signal, pt.signal.troubled), (bitLatched .signal, pt.signal.state == .latched),
     (bitNodeLost, pt.engine.state == .lost), (bitNodeHeld, pt.engine.state == .held),
     (bitNodeFault, (pt.engine.state == .bound || pt.engine.state == .paused) && pt.engine.fault)]

/-- A condition register with the named flags cleared, but for those whose underlying condition holds (R45). -/
def clearFlags (register mask holds : Word) : Word := register &&& ~~~(mask &&& ~~~holds)

/-- The flags of a port that CLEAR_CONDITIONS may name (R45). -/
def portFlagMask : Word := 0x01FF#16

/-- The flags of the device that CLEAR_CONDITIONS may name (R45). -/
def deviceFlagMask : Word := 0x001F#16

end Sys2Proof.Machine
end

