-- ==== Sys2Proof/Machine/Outputs.lean ====
section
/-! DEFINITION. The protection machine of the guarded outputs, the drive of the SIGNAL line, and the debounced receiver
(chapter 3). Each operation changes one output or one receiver; what the line engine makes of the change is in Engine.lean. -/

namespace Sys2Proof.Machine

/-! ### Enable (R49, R50) -/

/-- The FEED output's enable (R49). -/
def feedEnabled (mode : Mode) (c : PortConfig) : Bool :=
  c.feedEnable && (mode == .operate || (mode == .safeHold && c.safeFeedKeep))

/-- The SIGNAL output's enable (R50). -/
def signalEnabled (mode : Mode) (c : PortConfig) : Bool :=
  drivingMode c.signalMode &&
    (mode == .operate ||
      (mode == .safeHold && directDrivingMode c.signalMode && c.safeSignal != 3) ||
      (mode == .safeHold && c.tether))

/-- The enable of an output. -/
def outEnabled (mode : Mode) (c : PortConfig) : Out → Bool
  | .feed => feedEnabled mode c
  | .signal => signalEnabled mode c

/-- The enable of an output in the present state. -/
def State.enabled (s : State) (p : Fin 8) (o : Out) : Bool := outEnabled s.mode (s.conf p) o

/-! ### Drive (R64, R84) -/

/-- The effective drive level of a direct driving port (R64). -/
def effectiveLevel (mode : Mode) (c : PortConfig) : Bool :=
  if mode = .safeHold then
    if c.safeSignal = 0 then false else if c.safeSignal = 1 then true else c.driveLevel
  else c.driveLevel

/-- A conducting SIGNAL output drives nothing in SOURCE and SINK with effective level 0 (R64). -/
def signalDrives (mode : Mode) (c : PortConfig) : Bool :=
  if c.signalMode = 2 || c.signalMode = 3 then effectiveLevel mode c else true

/-- The current that an output's load draws while the output drives it, in milliamperes. -/
def Pins.load (x : Pins) (p : Fin 8) : Out → Nat
  | .feed => x.loadFeed.get p
  | .signal => x.loadSignal.get p

/-- The cut-off current that the CURRENT code chooses for an output, in milliamperes (R52, R63). -/
def PortConfig.cutoffCurrent (c : PortConfig) (o : Out) : Nat := cutoffCurrentMa o (guardCurrent (c.guard o))

/-- Whether a conducting output drives its load: a FEED output always does (R64). -/
def State.drives (s : State) (p : Fin 8) : Out → Bool
  | .feed => true
  | .signal => signalDrives s.mode (s.conf p)

/-- The evaluation of an output's current (R52): whether, conducting, it would deliver more than its cut-off current. -/
def State.overloaded (s : State) (p : Fin 8) (o : Out) : Bool :=
  s.drives p o && decide ((s.conf p).cutoffCurrent o < s.pins.load p o)

/-- What the controller does to a SIGNAL line. -/
inductive Drive
  | undriven
  | high
  | low
  | idleHold
  | transmitting
deriving DecidableEq, Repr

/-- The SIGNAL pin of a port (R64, R84): undriven while the output is off and during a reset interval (R184). -/
def State.signalPin (s : State) (p : Fin 8) : Drive :=
  let pt := s.port p
  let c := s.conf p
  if s.resetLine.isSome || !pt.signal.state.conducts then .undriven
  else if c.tether then
    if pt.engine.line.hush.isSome || pt.engine.line.exchange.any (fun x => x.phase == .sending) then .transmitting
    else .idleHold
  else if c.signalMode = 2 then (if effectiveLevel s.mode c then .high else .undriven)
  else if c.signalMode = 3 then (if effectiveLevel s.mode c then .low else .undriven)
  else if c.signalMode = 4 then (if effectiveLevel s.mode c then .high else .low)
  else .undriven

/-- The FEED pin of a port: whether the field supply is delivered. -/
def State.feedPin (s : State) (p : Fin 8) : Bool := !s.resetLine.isSome && (s.port p).feed.state.conducts

/-! ### The protection machine -/

/-- An output going to DISABLED, its timer abandoned and its count at 0 (R51). -/
def Output.disable (x : Output) : Output := { x with state := .disabled, count := 0#8, timer := none }

/-- An output entering ENGAGED, with its current evaluated at once (R52): on to LIMITING with a new cut-off timer, or staying,
with the settle timer started if the count is above 0 (R57). -/
def Output.engage (x : Output) (overloaded : Bool) (cutoff : Nat) : Output :=
  if overloaded then { x with state := .limiting, timer := some cutoff }
  else { x with state := .engaged, timer := if x.count = 0#8 then none else some settleUs }

/-- The cut-off delay in force for an output (R53). -/
def PortConfig.cutoff (c : PortConfig) (o : Out) : Nat := cutoffUs o (guardCutoff (c.guard o))

/-- An output entering ENGAGED in the present state. -/
def State.engageOut (s : State) (p : Fin 8) (o : Out) : State :=
  s.setOut p o (((s.port p).out o).engage (s.overloaded p o) ((s.conf p).cutoff o))

/-- An enabled output coming out of DISABLED or LATCHED: INHIBITED while the inhibit is asserted, else ENGAGED. -/
def State.bringOut (s : State) (p : Fin 8) (o : Out) : State :=
  if s.inhibit then s.setOut p o { ((s.port p).out o) with state := .inhibited, timer := none }
  else s.engageOut p o

/-- An output comparing its enable with its state (R51). -/
def State.reEnable (s : State) (p : Fin 8) (o : Out) : State :=
  let x := (s.port p).out o
  if s.enabled p o then
    if x.state = .disabled then s.bringOut p o else s
  else if x.state = .disabled || x.state = .latched then s
  else s.setOut p o x.disable

/-- Both outputs of a port comparing their enables, FEED before SIGNAL. -/
def State.reEnablePort (s : State) (p : Fin 8) : State := (s.reEnable p .feed).reEnable p .signal

/-- An overcurrent begin (R53): ENGAGED goes to LIMITING; every other state ignores it (R52). -/
def State.overBegin (s : State) (p : Fin 8) (o : Out) : State :=
  let x := (s.port p).out o
  if x.state = .engaged then s.setOut p o { x with state := .limiting, timer := some ((s.conf p).cutoff o) } else s

/-- An overcurrent end (R53): LIMITING goes back to ENGAGED; every other state ignores it (R52). -/
def State.overEnd (s : State) (p : Fin 8) (o : Out) : State :=
  let x := (s.port p).out o
  if x.state = .limiting then s.setOut p o (x.engage false 0) else s

/-- An output after a trip (R54): trip counter and count raised, then LATCHED if BUDGET is reached, else TRIPPED. -/
def Output.tripped (x : Output) (budget restart : Nat) : Output :=
  let count := bump8 x.count
  if budget ≠ 0 && budget ≤ count.toNat then
    { state := .latched, count := count, trips := bump16 x.trips, timer := none }
  else { state := .tripped, count := count, trips := bump16 x.trips, timer := some restart }

/-- The consequences of a trip outside the line engine (R55, R58): flag, entry and cause of the trip, then those of a latch. -/
def State.announceTrip (s : State) (p : Fin 8) (o : Out) (x : Output) : State :=
  let latched := x.state == .latched
  let s := s.setPortFlag p (bitTripped o)
  let s := if latched then s.setPortFlag p (bitLatched o) else s
  let s := s.log (evTrip p o x.count (byteOf (guardCurrent ((s.conf p).guard o))))
  let s := s.logIf latched (evLatch p o x.count)
  let s := s.cause p 0
  s.causeIf latched p 1

/-- The cut-off timer of an output expiring (R54, R55, R58). -/
def State.tripOut (s : State) (p : Fin 8) (o : Out) : State :=
  let x := (s.port p).out o
  if x.state = .limiting then
    let g := (s.conf p).guard o
    let y := x.tripped (guardBudget g) (restartUs o (guardRestart g))
    (s.setOut p o y).announceTrip p o y
  else s

/-- The restart timer of an output expiring (R56). -/
def State.restartOut (s : State) (p : Fin 8) (o : Out) : State :=
  if ((s.port p).out o).state = .tripped then s.engageOut p o else s

/-- The settle timer of an output expiring (R57). -/
def State.settleOut (s : State) (p : Fin 8) (o : Out) : State :=
  let x := (s.port p).out o
  if x.state = .engaged && x.timer.isSome then s.setOut p o { x with count := 0#8, timer := none } else s

/-- An output at the assertion of the inhibit (R60). -/
def Output.inhibit (x : Output) : Output :=
  if x.state = .engaged || x.state = .limiting || x.state = .tripped then { x with state := .inhibited, timer := none }
  else x

/-- Both outputs of a port at the assertion of the inhibit. -/
def State.inhibitPort (s : State) (p : Fin 8) : State :=
  s.modPort p (fun pt => { pt with feed := pt.feed.inhibit, signal := pt.signal.inhibit })

/-- An output at the release of the inhibit (R61). -/
def State.uninhibitOut (s : State) (p : Fin 8) (o : Out) : State :=
  if ((s.port p).out o).state = .inhibited then s.engageOut p o else s

/-- Both outputs of a port at the release of the inhibit, FEED before SIGNAL. -/
def State.uninhibitPort (s : State) (p : Fin 8) : State := (s.uninhibitOut p .feed).uninhibitOut p .signal

/-- One selected output of RELEASE_OUTPUT (R59). -/
def State.releaseOut (s : State) (p : Fin 8) (o : Out) : State :=
  let x := (s.port p).out o
  if x.state = .latched then
    let s := s.setOut p o x.disable
    let s := if s.enabled p o then s.bringOut p o else s
    s.log (evReleased p o)
  else s

/-- Both outputs of a port disabled whatever their state, with counts at 0, as at entry to STANDBY (R27). -/
def State.disablePort (s : State) (p : Fin 8) : State :=
  s.modPort p (fun pt => { pt with feed := pt.feed.disable, signal := pt.signal.disable })

/-! ### Readback and debounce (R65 to R68) -/

/-- RAW as the receiver sees it (R65): 0 in OFF and during STARTUP. -/
def State.rawLevel (s : State) (p : Fin 8) : Bool :=
  s.pins.raw.get p && (s.conf p).signalMode != 0 && s.mode != .startup

/-- A change of LEVEL, an input edge (R67). -/
def State.inputEdge (s : State) (p : Fin 8) (level : Bool) : State :=
  let s := s.modPort p (fun pt => { pt with rx := ⟨level, none⟩ })
  (s.log (evInputEdge p level)).cause p 9

/-- The debounce machine at a change of the raw level (R66). -/
def State.rawChange (s : State) (p : Fin 8) (level : Bool) : State :=
  let c := s.conf p
  if debouncedMode c.signalMode && s.mode != .startup then
    let rx := (s.port p).rx
    if c.debounce = 0 then
      -- a timer started under another code runs to its end (R66)
      if level = rx.level then s
      else
        let s := s.modPort p (fun pt => { pt with rx := { pt.rx with level := level } })
        (s.log (evInputEdge p level)).cause p 9
    else if level = rx.level then s.modPort p (fun pt => { pt with rx := { pt.rx with settling := none } })
    else s.modPort p (fun pt => { pt with rx := { pt.rx with settling := some (debounceUs c.debounce) } })
  else s

/-- The debounce timer expiring (R66): LEVEL takes the raw level, an edge if it changes. -/
def State.debounceEnd (s : State) (p : Fin 8) : State :=
  let rx := (s.port p).rx
  if rx.settling.isSome then
    let raw := s.pins.raw.get p
    if raw = rx.level then s.modPort p (fun pt => { pt with rx := { pt.rx with settling := none } })
    else s.inputEdge p raw
  else s

/-- The receiver taking LEVEL from the line without an edge, in the modes that debounce; 0 in the others (R68). -/
def State.receiverAfresh (s : State) (p : Fin 8) : State :=
  let level := debouncedMode (s.conf p).signalMode && s.pins.raw.get p
  s.modPort p (fun pt => { pt with rx := ⟨level, none⟩ })

/-- The receiver at a change of signal mode from `old` (R68): carried on between two modes that debounce, else afresh. -/
def State.receiverFollow (s : State) (p : Fin 8) (old : Nat) : State :=
  if old = (s.conf p).signalMode || (debouncedMode old && debouncedMode (s.conf p).signalMode) then s
  else s.receiverAfresh p

end Sys2Proof.Machine
end

