-- ==== Sys2Proof/Machine/Pool.lean ====
section
/-! DEFINITION. The request pool (chapter 7): free slots, allocation, completion, abandonment and freeing. A slot is FREE exactly
while no port's queue, in-flight place or done list holds its number. -/

namespace Sys2Proof.Machine

/-- The slot numbers 0 to 31. -/
def allSlots : List (Fin 32) := List.finRange 32

/-- The numbers of the slots a port holds. -/
def Port.slots (pt : Port) : List (Fin 32) := pt.held.map Request.slot

/-- The numbers of all held slots, in port order. -/
def State.heldSlots (s : State) : List (Fin 32) := s.ports.toList.flatMap Port.slots

/-- The FREE slots, lowest number first (R124). -/
def State.freeSlots (s : State) : List (Fin 32) := allSlots.filter (fun n => !s.heldSlots.contains n)

/-- The states of a slot (R124). -/
inductive SlotState
  | free
  | queued (owner : Fin 8)
  | inFlight (owner : Fin 8)
  | done (owner : Fin 8)
deriving DecidableEq, Repr

/-- The state of a slot within one port, if the port holds it. -/
def Port.slotState (pt : Port) (owner : Fin 8) (n : Fin 32) : Option SlotState :=
  if pt.queue.any (fun r => r.slot == n) then some (.queued owner)
  else if pt.inFlight.any (fun r => r.slot == n) then some (.inFlight owner)
  else if pt.done.any (fun d => d.request.slot == n) then some (.done owner)
  else none

/-- The state of a slot (R124). -/
def State.slotState (s : State) (n : Fin 32) : SlotState :=
  (allPorts.findSome? (fun p => (s.port p).slotState p n)).getD .free

/-- The quota of a port (R127). -/
def State.quota (s : State) (p : Fin 8) : Nat := field (s.conf p).quota 0 4

/-- The port holds a slot of origin NOTICE (R126). -/
def Port.noticeHeld (pt : Port) : Bool := pt.held.any (fun r => r.origin == .notice)

/-- A request of software queued at the tail (R129). -/
def State.enqueue (s : State) (p : Fin 8) (r : Request) : State :=
  s.modPort p (fun pt => { pt with queue := pt.queue ++ [r] })

/-- A completed slot appended to the done list (R131). -/
def Port.complete (pt : Port) (r : Request) (o : SlotOutcome) : Port :=
  { pt with inFlight := none, done := pt.done ++ [⟨r, o⟩] }

/-- The in-flight slot completing as DONE_OK (R131). -/
def State.completeOk (s : State) (p : Fin 8) (result : Byte) (reply : List Byte) : State :=
  match (s.port p).inFlight with
  | none => s
  | some r =>
    let s := s.modPort p (fun pt => pt.complete r (.doneOk result reply))
    s.cause p (match r.origin with | .notice => 7 | .host => 6)

/-- The in-flight slot completing as FAILED (R131). -/
def State.completeFailed (s : State) (p : Fin 8) : State :=
  match (s.port p).inFlight with
  | none => s
  | some r =>
    let s := s.modPort p (fun pt => pt.complete r .failed)
    let s := s.setPortFlag p bitRequestFailed
    let s := s.log (evRequestFailed p r)
    s.cause p 6

/-- The slots a detach hands over: the in-flight slot and then the queue (R116). -/
def Port.handedOver (pt : Port) : List Request := pt.inFlight.toList ++ pt.queue

/-- The slots of a detaching engine abandoned, with one entry and one cause if there are any (R132). -/
def State.abandon (s : State) (p : Fin 8) : State :=
  let handed := (s.port p).handedOver
  if handed.isEmpty then s
  else
    let s := s.modPort p (fun pt =>
      { pt with queue := [], inFlight := none, done := pt.done ++ handed.map (fun r => ⟨r, .abandoned⟩) })
    let s := s.log (evAbandoned p handed.length)
    s.cause p 6

/-- The delivered slot freed at the clean end of its FETCH (R134). -/
def State.freeHead (s : State) (p : Fin 8) (n : Fin 32) : State :=
  match (s.port p).done with
  | d :: rest => if d.request.slot = n then s.modPort p (fun pt => { pt with done := rest }) else s
  | [] => s

/-- The reply payload of a completed slot (R133). -/
def DoneSlot.payload (d : DoneSlot) : List Byte :=
  let r := d.request
  let tail : List Byte := match d.outcome with | .doneOk result reply => result :: reply | _ => [0#8]
  [byteOf r.slot.val, r.tag, originOp r] ++ wordBytes r.index ++ [r.subindex, byteOf (outcomeCode d.outcome)] ++ tail

end Sys2Proof.Machine
end

