-- ==== Sys2Proof/Machine/Line.lean ====
section
/-! DEFINITION. The wire side of the tether line (chapter 5): parcels, their check and acceptance, and the phases of an
attempt. -/

namespace Sys2Proof.Machine

/-! ### Parcels -/

/-- A parcel's bytes (section 5.3). -/
def parcelBytes (type : Nat) (seq : BitVec 2) (flags : Nat) (payload : List Byte) : List Byte :=
  let body := [byteOf (16 * type + 4 * seq.toNat + flags), byteOf payload.length] ++ payload
  body ++ [parcelCrc body]

/-- The WAKE parcel (R92). -/
def wakeParcel : List Byte := parcelBytes 1 0#2 0 []

/-- The HUSH parcel (R92). -/
def hushParcel : List Byte := parcelBytes 7 0#2 0 []

/-- The POLL parcel with an output image, and the safe poll (R92). -/
def pollParcel (seq : BitVec 2) (image : List Byte) : List Byte := parcelBytes 3 seq 0 image

/-- The safe poll: the SAFE flag set and no payload (R92). -/
def safePollParcel (seq : BitVec 2) : List Byte := parcelBytes 3 seq 1 []

/-- The ASK parcel of a slot (R92). -/
def askParcel (seq : BitVec 2) (r : Request) : List Byte :=
  parcelBytes 5 seq 0 ([byteOf (opCode r.op)] ++ wordBytes r.index ++ [r.subindex] ++ r.data)

/-- A received parcel that is well formed. -/
structure Parcel where
  type : Nat
  seq : BitVec 2
  notice : Bool
  nodeFault : Bool
  payload : List Byte
deriving DecidableEq, Repr

/-- A received run of characters judged as a parcel (R87, R91); `none` when it is invalid. -/
def readParcel (chars : List LineChar) : Option Parcel :=
  let bytes := chars.map LineChar.data
  match bytes with
  | lead :: len :: rest =>
    let n := len.toNat
    let type := (lead >>> 4).toNat
    if chars.all charGood && chars.length < overlongChars && chars.length = n + 3 && n ≤ 28
        && rest.drop n = [parcelCrc (bytes.take (n + 2))] && 1 ≤ type && type ≤ 7 then
      some ⟨type, lead.extractLsb' 2 2, lead.getLsbD 0, lead.getLsbD 1, rest.take n⟩
    else none
  | _ => none

/-! ### Acceptance (R95) -/

/-- What a version-1 HELLO announces (section 5.3). -/
structure Hello where
  nodeClass : Word
  nodeId : BitVec 32
  inputLen : Byte
  outputLen : Byte
  minCycle : Byte
deriving DecidableEq, Repr

/-- What an accepted reply carries (R98). -/
inductive Accepted
  | helloOther (version : Byte)
  | hello (h : Hello)
  | answer (image : List Byte) (notice nodeFault : Bool)
  | tell (result : Byte) (data : List Byte)
deriving DecidableEq, Repr

/-- The payload of a HELLO (R95). -/
def acceptHello (payload : List Byte) : Option Accepted :=
  match payload with
  | [] => none
  | version :: rest =>
    if version ≠ 1#8 then some (.helloOther version)
    else
      match rest with
      | [c1, c0, i3, i2, i1, i0, inLen, outLen, minCycle] =>
        if inLen.toNat ≤ 8 && outLen.toNat ≤ 8 && minCycle.toNat ≤ 5 then
          some (.hello ⟨wordOf c1 c0, wordOf i3 i2 ++ wordOf i1 i0, inLen, outLen, minCycle⟩)
        else none
      | _ => none

/-- The reply of an attempt accepted, or `none` when it is mismatched (R95). -/
def acceptReply (x : Exchange) (inputLen : Nat) (q : Parcel) : Option Accepted :=
  match x.kind with
  | .wake => if q.type = 2 && q.seq = 0#2 then acceptHello q.payload else none
  | .poll =>
    if q.type = 4 && q.seq = x.seq && q.payload.length = inputLen then some (.answer q.payload q.notice q.nodeFault)
    else none
  | .ask =>
    if q.type = 6 && q.seq = x.seq then
      match q.payload with
      | result :: data => if data.length ≤ 24 then some (.tell result data) else none
      | [] => none
    else none

/-! ### The phases of an attempt (R88, R96) -/

/-- The exchange in progress on a port. -/
def State.exchange (s : State) (p : Fin 8) : Option Exchange := (s.engine p).line.exchange

/-- The exchange of a port replaced. -/
def State.setExchange (s : State) (p : Fin 8) (x : Option Exchange) : State :=
  s.modLine p (fun l => { l with exchange := x })

/-- A transmission beginning: the rate is latched when it is a WAKE (R86). -/
def State.transmit (s : State) (p : Fin 8) (x : Exchange) : State :=
  s.modLine p (fun l =>
    { l with
      exchange := some { x with phase := .sending }
      rate := if x.kind = .wake then some (s.conf p).rate else l.rate })

/-- An attempt beginning: at once, or at the end of the turnaround that still runs (R88). -/
def State.beginAttempt (s : State) (p : Fin 8) (x : Exchange) : State :=
  if (s.engine p).line.turnaround then s.setExchange p (some { x with phase := .waiting }) else s.transmit p x

/-- The turnaround elapsing: an attempt that waits begins its transmission (R88). -/
def State.turnaroundEnd (s : State) (p : Fin 8) : State :=
  if (s.engine p).line.turnaround then
    let s := s.modLine p (fun l => { l with turnaround := false })
    match s.exchange p with
    | some x => if x.phase = .waiting then s.transmit p x else s
    | none => s
  else s

/-- The end of transmission of an exchange's parcel: the answer window opens (R89). A transmission that ends has begun, so an
attempt still shown waiting has ended its wait (notes/assumptions/16.md). -/
def State.transmissionEnd (s : State) (p : Fin 8) : State :=
  match s.exchange p with
  | some x =>
    match x.phase with
    | .listening => s
    | .sending => s.setExchange p (some { x with phase := .listening })
    | .waiting =>
      ((s.modLine p (fun l => { l with turnaround := false })).transmit p x).setExchange p
        (some { x with phase := .listening })
  | none => s

/-- The parcel a port is sending (R84, R92): a HUSH, or that of the exchange in progress. -/
def State.lineOut (s : State) (p : Fin 8) : Option (List Byte) :=
  if s.signalPin p = .transmitting then
    if (s.engine p).line.hush.isSome then some hushParcel else (s.exchange p).map (fun x => x.parcel)
  else none

/-- The same parcel as the characters it is sent in (R85). -/
def State.lineChars (s : State) (p : Fin 8) : Option (List LineChar) := (s.lineOut p).map (fun bytes => bytes.map sentChar)

/-- The same parcel bit by bit, each bit lasting one bit time at the rate in force (R85, R86). -/
def State.lineBits (s : State) (p : Fin 8) : Option (List Bool) := (s.lineChars p).map (fun chars => chars.flatMap wireBits)

end Sys2Proof.Machine
end

