-- ==== Sys2Proof/Machine/Engine.lean ====
section
/-! DEFINITION. The line engines (chapter 6): waking, binding, the cycle, the interval, failures, detach, and the response to
what the outputs hand over. -/

namespace Sys2Proof.Machine

/-! ### Leaving a binding (R116, R117) -/

/-- An engine leaving for DETACHED, LOST or HELD with a reason: images, flags, requests and counts cleared (R111, R116). The
rebind delay starts at an entry to LOST (R115). -/
def Engine.leave (e : Engine) (dest : EngState) (r : Reason) (line : LineState) : Engine :=
  { e with
    state := dest
    reason := r
    line := line
    timer := if dest = .lost then .rebind else .none
    pauseRequested := false
    failCount := 0
    valid := false
    fault := false
    notice := false
    due := false }

/-- The detach of an engine that is not DETACHED, with its announcement and the abandonment of its slots (R116, R117, R132). -/
def State.detach (s : State) (p : Fin 8) (r : Reason) : State :=
  let old := (s.engine p).state
  if old = .detached then s
  else
    let s := s.modEngine p (fun e => e.leave .detached r LineState.reset)
    let s := s.log (evNodeDetached p r old)
    let s := s.causeIf (r != .host) p 3
    s.abandon p

/-- The entry to LOST (R115, R116, R117); when an ASK failure brought it about, its slot completes as FAILED first (R114). -/
def State.lose (s : State) (p : Fin 8) (r : Reason) (askFailed : Bool) : State :=
  let old := (s.engine p).state
  let s := s.modEngine p (fun e => e.leave .lost r LineState.reset)
  let s := s.setPortFlag p bitNodeLost
  let s := s.log (evNodeLost p r old)
  let s := s.cause p 3
  let s := if askFailed then s.completeFailed p else s
  s.abandon p

/-- The entry to HELD (R105, R117). -/
def State.hold (s : State) (p : Fin 8) (r : Reason) (value : Byte) : State :=
  let s := s.modEngine p (fun e => e.leave .held r e.line)
  let s := s.setPortFlag p bitNodeHeld
  let s := s.log (evNodeHeld p r value)
  let s := s.cause p 4
  s.abandon p

/-! ### Waking (R103, R104) -/

/-- The port's device mode and signal mode let an engine bind (R103), whatever its outputs do. -/
def State.bindMode (s : State) (p : Fin 8) : Bool :=
  (s.mode == .operate || (s.mode == .safeHold && (s.conf p).safePoll)) && (s.conf p).tether

/-- Binding is permitted (R103). -/
def State.bindPermitted (s : State) (p : Fin 8) : Bool :=
  s.bindMode p && (s.port p).feed.state == .engaged && (s.port p).signal.state == .engaged

/-- Binding is not permitted only because an output of the port is LIMITING (R103). -/
def State.bindLimited (s : State) (p : Fin 8) : Bool :=
  s.bindMode p && (s.port p).feed.state.conducts && (s.port p).signal.state.conducts && !s.bindPermitted p

/-- A WAKE exchange starting, with the wake spacing timer (R97, R104). -/
def State.startWake (s : State) (p : Fin 8) : State :=
  let s := s.modEngine p (fun e => { e with timer := .spacing })
  s.beginAttempt p ⟨.wake, 0#2, wakeParcel, 1, 1, .waiting⟩

/-- The entry to WAKING (R103): the line state reset but for a trailing HUSH (R100), and the first WAKE started at once or at
the end of that HUSH. -/
def State.enterWaking (s : State) (p : Fin 8) : State :=
  let s := s.modEngine p (fun e =>
    { e with
      state := .waking
      reason := .none
      line := { LineState.reset with hush := e.line.hush }
      timer := .none
      wakeCount := 0
      due := false })
  if (s.engine p).line.hush.isSome then s else s.startWake p

/-- An auto-bind event (R103): a DETACHED engine with AUTO_BIND set enters WAKING, or keeps a bind due while an output of its
port is LIMITING. `triggered` marks the engagement of an output, which does not wake an engine detached by UNBIND. -/
def State.autoBind (s : State) (p : Fin 8) (triggered : Bool) : State :=
  let e := s.engine p
  if e.state = .detached && (s.conf p).autoBind && !(triggered && e.reason == .host) then
    if s.bindPermitted p then s.enterWaking p
    else if s.bindLimited p then s.modEngine p (fun e => { e with due := true })
    else s
  else s

/-- A bind due or rebind due taken, kept or cancelled after the outputs or the modes have changed (R103, R115). -/
def State.settleDue (s : State) (p : Fin 8) : State :=
  let e := s.engine p
  if e.due then
    match e.state with
    | .lost => if s.bindPermitted p then s.enterWaking p else s
    | _ =>
      if s.bindPermitted p && e.state = .detached && (s.conf p).autoBind then s.enterWaking p
      else if s.bindLimited p && e.state = .detached then s
      else s.modEngine p (fun e => { e with due := false })
  else s

/-- A failed WAKE attempt (R104). -/
def State.wakeFailed (s : State) (p : Fin 8) : State :=
  let s := s.modEngine p (fun e =>
    { e with wakeCount := e.wakeCount + 1, line := { e.line with exchange := none } })
  let e := s.engine p
  if wakeAttempts ≤ e.wakeCount then
    if (s.conf p).autoRebind then s.lose p .noNode false else s.detach p .noNode
  else if e.timer = .spacing then s
  else s.startWake p

/-- The wake spacing timer expiring (R104): the next WAKE starts, or waits for the end of the exchange in progress (R97). -/
def State.spacingEnd (s : State) (p : Fin 8) : State :=
  let e := s.engine p
  if e.timer = .spacing then
    let s := s.modEngine p (fun e => { e with timer := .none })
    if e.line.exchange.isSome then s else s.startWake p
  else s

/-- The rebind delay expiring (R115). -/
def State.rebindEnd (s : State) (p : Fin 8) : State :=
  if (s.engine p).timer = .rebind then
    let s := s.modEngine p (fun e => { e with timer := .none })
    if (s.conf p).autoRebind then
      if s.bindPermitted p then s.enterWaking p
      else if s.bindLimited p then s.modEngine p (fun e => { e with due := true })
      else s
    else s
  else s

/-! ### The cycle (R107 to R109) -/

/-- The port applies the SAFE_POLL safe action (R172). -/
def State.safePolling (s : State) (p : Fin 8) : Bool := s.mode == .safeHold && (s.conf p).safePoll

/-- The SEQ of the next POLL or ASK (R94). -/
def State.nextSeq (s : State) (p : Fin 8) : BitVec 2 := (s.engine p).line.seq + 1#2

/-- A POLL or ASK exchange starting: the SEQ counter advanced, the limit fixed (R94, R96). -/
def State.startExchange (s : State) (p : Fin 8) (kind : ExchKind) (parcel : List Byte) : State :=
  let q := s.nextSeq p
  let s := s.modLine p (fun l => { l with seq := q })
  s.beginAttempt p ⟨kind, q, parcel, 1, 1 + (s.conf p).retryLimit, .waiting⟩

/-- A POLL starting (R92, R108): the output image sampled, but for a safe poll. -/
def State.startPoll (s : State) (p : Fin 8) : State :=
  let c := s.conf p
  let q := s.nextSeq p
  s.startExchange p .poll
    (if s.safePolling p then safePollParcel q else pollParcel q (c.outputImage.bytes.take c.outputLen.toNat))

/-- An ASK of a slot starting (R92, R112). -/
def State.startAsk (s : State) (p : Fin 8) (r : Request) : State :=
  s.startExchange p .ask (askParcel (s.nextSeq p) r)

/-- A missed tick (R109). -/
def State.missTick (s : State) (p : Fin 8) (kind : ExchKind) : State :=
  let fresh := !(s.port p).condition.getLsbD bitMissedTick
  let s := s.modEngine p (fun e => { e with missedTicks := bump16 e.missedTicks })
  let s := s.setPortFlag p bitMissedTick
  let s := s.logIf fresh (evMissedTick p kind)
  s.cause p 8

/-- A tick (R107, R108): the next one scheduled, then a POLL started, the tick missed, or nothing under a pause request. -/
def State.takeTick (s : State) (p : Fin 8) : State :=
  let s := s.modEngine p (fun e => { e with timer := .tick (cycleMs (s.conf p).cycle) })
  let e := s.engine p
  if e.pauseRequested then s
  else
    match e.line.exchange with
    | some x => s.missTick p x.kind
    | none => s.startPoll p

/-- The tick timer expiring: it runs only in BOUND (R107). -/
def State.tickEnd (s : State) (p : Fin 8) : State :=
  match (s.engine p).state, (s.engine p).timer with
  | .bound, .tick _ => s.takeTick p
  | _, _ => s

/-- The entry to PAUSED (R120). -/
def State.enterPaused (s : State) (p : Fin 8) : State :=
  s.modEngine p (fun e => { e with state := .paused, pauseRequested := false, timer := .none, valid := false })

/-! ### Outcomes of exchanges (R98, R110 to R114) -/

/-- A POLL or ASK exchange failed on its last attempt (R110, R113, R114). -/
def State.exchangeFailed (s : State) (p : Fin 8) (kind : ExchKind) : State :=
  let s := s.modEngine p (fun e =>
    { e with
      line := { e.line with exchange := none }
      valid := if kind = .poll then false else e.valid
      failedExchanges := bump16 e.failedExchanges
      failCount := min 15 (e.failCount + 1) })
  let e := s.engine p
  if (s.conf p).failLimit ≤ e.failCount then s.lose p .failures (kind == .ask)
  else
    let s := if kind = .ask then s.completeFailed p else s
    if e.pauseRequested then s.enterPaused p else s

/-- A failed attempt (R96): a retry with the same bytes, or the failure of the exchange. -/
def State.attemptFailed (s : State) (p : Fin 8) (x : Exchange) : State :=
  if x.kind = .wake then s.wakeFailed p
  else if x.attempts < x.limit then
    let s := s.modEngine p (fun e => { e with retryCount := bump16 e.retryCount })
    s.beginAttempt p { x with attempts := x.attempts + 1 }
  else s.exchangeFailed p x.kind

/-- The answer window expiring in silence (R89); any turnaround has long elapsed then (R88). -/
def State.windowEnd (s : State) (p : Fin 8) : State :=
  match s.exchange p with
  | some x =>
    if x.phase = .listening then (s.modLine p (fun l => { l with turnaround := false })).attemptFailed p x else s
  | none => s

/-- The entry to BOUND (R106). -/
def State.enterBound (s : State) (p : Fin 8) (h : Hello) : State :=
  let s := s.modEngine p (fun e =>
    { e with
      state := .bound
      reason := .none
      pauseRequested := false
      failCount := 0
      valid := false
      fault := false
      notice := false
      due := false
      inputLen := h.inputLen
      inputImage := Image.zero })
  let s := s.takeTick p
  let s := s.log (evNodeBound p h.nodeClass h.inputLen h.outputLen)
  s.cause p 2

/-- An accepted HELLO checked (R105). -/
def State.helloVersion1 (s : State) (p : Fin 8) (h : Hello) : State :=
  let c := s.conf p
  let s := s.modEngine p (fun e =>
    { e with
      line := { e.line with exchange := none }
      nodeClass := h.nodeClass
      nodeId := h.nodeId })
  if (c.expectClass ≠ 0#16 && c.expectClass ≠ h.nodeClass) || (c.expectId ≠ 0#32 && c.expectId ≠ h.nodeId) then
    s.hold p .identity 0#8
  else if h.outputLen.toNat ≠ c.outputLen.toNat then s.hold p .imageLength h.outputLen
  else if c.cycle < h.minCycle.toNat then s.hold p .cycle h.minCycle
  else s.enterBound p h

/-- An accepted HELLO of another version (R105). -/
def State.helloOther (s : State) (p : Fin 8) (version : Byte) : State :=
  let s := s.modEngine p (fun e =>
    { e with line := { e.line with exchange := none }, nodeClass := 0#16, nodeId := 0#32 })
  s.hold p .version version

/-- The notice slot of a port, allocated in flight (R130). -/
def noticeRequest (n : Fin 32) : Request := ⟨n, .notice, 0#8, .fetchNotice, 0#16, 0#8, []⟩

/-- The slot a waiting notice may take (R112): none while the port holds a notice slot, is at its quota, or the pool is dry. -/
def State.noticeSlot (s : State) (p : Fin 8) : Option (Fin 32) :=
  if (s.engine p).notice && !(s.port p).noticeHeld && (s.port p).heldCount < s.quota p then s.freeSlots.head? else none

/-- The choice of the interval's exchange (R112, R130). -/
def State.chooseInterval (s : State) (p : Fin 8) : State :=
  if (s.engine p).pauseRequested then s.enterPaused p
  else
    match s.noticeSlot p with
    | some n =>
      let r := noticeRequest n
      (s.modPort p (fun pt => { pt with inFlight := some r })).startAsk p r
    | none =>
      match s.safePolling p, (s.port p).queue with
      | false, r :: rest => (s.modPort p (fun pt => { pt with queue := rest, inFlight := some r })).startAsk p r
      | _, _ => s

/-- An accepted ANSWER (R111), and then the interval (R112). -/
def State.answerAccepted (s : State) (p : Fin 8) (image : List Byte) (notice nodeFault : Bool) : State :=
  let begins := nodeFault && !(s.engine p).fault
  let s := s.modEngine p (fun e =>
    { e with
      line := { e.line with exchange := none }
      inputImage := imageOf image
      valid := true
      fault := nodeFault
      notice := notice
      failCount := 0 })
  let s := if begins then s.setPortFlag p bitNodeFault else s
  let s := s.logIf begins (evNodeFault p)
  let s := s.causeIf begins p 5
  s.chooseInterval p

/-- An accepted TELL (R113). -/
def State.tellAccepted (s : State) (p : Fin 8) (result : Byte) (data : List Byte) : State :=
  let s := s.modEngine p (fun e => { e with line := { e.line with exchange := none }, failCount := 0 })
  let s := s.completeOk p result data
  if (s.engine p).pauseRequested then s.enterPaused p else s

/-- An accepted reply handed to the engine (R98). -/
def State.handOutcome (s : State) (p : Fin 8) : Accepted → State
  | .helloOther version => s.helloOther p version
  | .hello h => s.helloVersion1 p h
  | .answer image notice nodeFault => s.answerAccepted p image notice nodeFault
  | .tell result data => s.tellAccepted p result data

/-- A completed reception (R95, R96): judged only while an attempt listens, discarded otherwise (R84). -/
def State.reception (s : State) (p : Fin 8) (chars : List LineChar) : State :=
  match s.exchange p with
  | some x =>
    if x.phase = .listening && !chars.isEmpty then
      let s := s.modLine p (fun l => { l with turnaround := true })
      match (readParcel chars).bind (acceptReply x (s.engine p).inputLen.toNat) with
      | some a => s.handOutcome p a
      | none => s.attemptFailed p x
    else s
  | none => s

/-- The trailing HUSH ending (R97, R119): a waking period that waits for it sends its first WAKE. -/
def State.hushEnd (s : State) (p : Fin 8) : State :=
  if (s.engine p).line.hush.isSome then
    let s := s.modLine p (fun l => { l with hush := none })
    let e := s.engine p
    if e.state = .waking && e.timer = .none && e.line.exchange.isNone then s.startWake p else s
  else s

/-! ### What the outputs hand over (R62) -/

/-- A trailing HUSH aborted when the SIGNAL output no longer conducts (R119). -/
def State.hushFollow (s : State) (p : Fin 8) : State :=
  if (s.port p).signal.state.conducts then s else s.modLine p (fun l => { l with hush := none })

/-- An output that did not conduct before and has entered ENGAGED, going on to LIMITING or not (R62, R103). -/
def engagedNow (before after : Output) : Bool := !before.state.conducts && after.state.conducts

/-- An output that conducted before and no longer does (R62). -/
def stoppedNow (before after : Output) : Bool := before.state.conducts && !after.state.conducts

/-- The engine's response to a change of its port's outputs, `before` being the port before the step (R62, R103): a detach, an
auto-bind event, and a due taken or cancelled. -/
def State.engineFollow (s : State) (p : Fin 8) (before : Port) : State :=
  let after := s.port p
  let tether := (s.conf p).tether
  let s := s.hushFollow p
  let s :=
    if after.engine.state ≠ .detached && stoppedNow before.feed after.feed then s.detach p .feedOff
    else if after.engine.state ≠ .detached && tether && stoppedNow before.signal after.signal then s.detach p .signalOff
    else if tether && (engagedNow before.feed after.feed || engagedNow before.signal after.signal) then s.autoBind p true
    else s
  s.settleDue p

/-- A change of a port's outputs, with the engine's response. -/
def State.withOutputs (s : State) (p : Fin 8) (change : State → State) : State :=
  (change s).engineFollow p (s.port p)

/-! ### Port commands (R118 to R122) -/

/-- UNBIND (R119): the detach with reason HOST, and from BOUND or PAUSED one HUSH at the rate latched before. -/
def State.unbind (s : State) (p : Fin 8) : State :=
  let e := s.engine p
  let rate := e.line.rate.getD (s.conf p).rate
  let s := s.detach p .host
  if (e.state = .bound || e.state = .paused) && (s.port p).signal.state.conducts then
    s.modLine p (fun l => { l with hush := some rate })
  else s

/-- PAUSE in BOUND (R120). -/
def State.pausePort (s : State) (p : Fin 8) : State :=
  if (s.exchange p).isSome then s.modEngine p (fun e => { e with pauseRequested := true }) else s.enterPaused p

/-- RESUME_PORT where it is accepted (R121). -/
def State.resumePort (s : State) (p : Fin 8) : State :=
  if (s.engine p).state = .paused then
    (s.modEngine p (fun e => { e with state := .bound, reason := .none })).takeTick p
  else s.modEngine p (fun e => { e with pauseRequested := false })

/-- CLEAR_COUNTERS (R122). -/
def State.clearCounters (s : State) (p : Fin 8) : State :=
  s.modPort p (fun pt =>
    { pt with
      feed := { pt.feed with trips := 0#16 }
      signal := { pt.signal with trips := 0#16 }
      engine := { pt.engine with retryCount := 0#16, failedExchanges := 0#16, missedTicks := 0#16 } })

end Sys2Proof.Machine
end

