-- ==== Sys2Proof/Machine/Operands.lean ====
section
/-! DEFINITION. The operands of host frames: where a request ends (R1), selectors (R4), the register map with its access types
and ranges (R5, R190), and the commands with their arguments (R7). -/

namespace Sys2Proof.Machine

/-! ### Frames (section 1.1) -/

/-- A completed request: the header's fields, TAG, LENGTH, the payload taken and the CHECK byte. -/
structure Frame where
  kind : BitVec 3
  unit : BitVec 3
  low : BitVec 2
  tag : Byte
  length : Byte
  payload : List Byte
  check : Byte
deriving DecidableEq, Repr

/-- The HEADER byte. -/
def headerByte (kind unit : BitVec 3) (low : BitVec 2) : Byte := kind ++ unit ++ low

/-- The kinds (section 1.1). -/
def kindWrite : BitVec 3 := 1#3
def kindRead : BitVec 3 := 2#3
def kindIssue : BitVec 3 := 3#3
def kindFetch : BitVec 3 := 4#3
def kindPost : BitVec 3 := 5#3

/-- KIND is 1 to 5 and the low header bits are zero (step 1 of R10). -/
def headerLegal (kind : BitVec 3) (low : BitVec 2) : Bool := 1 ≤ kind.toNat && kind.toNat ≤ 5 && low == 0#2

/-- LENGTH is within the kind's range (section 1.2). -/
def lengthLegal (kind : BitVec 3) (n : Nat) : Bool :=
  match kind.toNat with
  | 1 => 4 ≤ n && n ≤ 32 && n % 4 == 0
  | 2 => n == 3
  | 3 => 1 ≤ n && n ≤ 8
  | 4 => n == 1
  | 5 => 6 ≤ n && n ≤ 30
  | _ => false

/-- The bytes the request check covers (R3): HEADER to the last payload byte taken. -/
def Frame.covered (f : Frame) : List Byte := headerByte f.kind f.unit f.low :: f.tag :: f.length :: f.payload

/-- The bytes clocked from the assertion of CS, read as R1 reads them: a completed request, or none. -/
def completedRequest (mosi : List Byte) : Option Frame :=
  match mosi with
  | header :: tag :: length :: rest =>
    let kind := header.extractLsb' 5 3
    let unit := header.extractLsb' 2 3
    let low := header.extractLsb' 0 2
    let n := if headerLegal kind low && lengthLegal kind length.toNat then length.toNat else 0
    match rest.drop n with
    | check :: _ => some ⟨kind, unit, low, tag, length, rest.take n, check⟩
    | [] => none
  | _ => none

/-- The KIND field of a request cut short, 0 without a header byte (R15). -/
def runtKind : List Byte → BitVec 3
  | header :: _ => header.extractLsb' 5 3
  | [] => 0#3

/-- The TAG of a request cut short, 0 without a tag byte (R15). -/
def runtTag : List Byte → Byte
  | _ :: tag :: _ => tag
  | _ => 0#8

/-- The LENGTH byte software sends with a payload. -/
def lengthByte (payload : List Byte) : Byte := byteOf (min payload.length 255)

/-- The bytes software clocks for a frame of a given kind and payload. -/
def frameBytes (f : FrameHead) (kind : BitVec 3) (payload : List Byte) : List Byte :=
  [headerByte kind f.unit 0#2, f.tag, lengthByte payload] ++ payload ++ [f.check]

/-- The request that `frameBytes` make under R1: with a LENGTH out of range the payload is taken as empty, and the byte after
LENGTH stands in the CHECK position. -/
def requestOf (f : FrameHead) (kind : BitVec 3) (payload : List Byte) : Frame :=
  if headerLegal kind 0#2 && lengthLegal kind (lengthByte payload).toNat then
    ⟨kind, f.unit, 0#2, f.tag, lengthByte payload, payload, f.check⟩
  else ⟨kind, f.unit, 0#2, f.tag, lengthByte payload, [], payload.headD f.check⟩

/-- The bytes of a reply (section 1.1). -/
def Reply.bytes (r : Reply) : List Byte :=
  let body := [r.status, r.tag, byteOf r.payload.length] ++ r.payload
  body ++ [frameCrc body]

/-- The entries of a WRITE payload (section 1.2). -/
def entriesOf : List Byte → List WriteEntry
  | a1 :: a0 :: v1 :: v0 :: rest => ⟨wordOf a1 a0, wordOf v1 v0⟩ :: entriesOf rest
  | _ => []

/-- The payload of a WRITE. -/
def entryBytes (entries : List WriteEntry) : List Byte :=
  entries.flatMap (fun e => wordBytes e.address ++ wordBytes e.value)

/-! ### Selectors (R4) -/

/-- The stream a well-formed selector names. -/
def selectorStream (selector : Byte) : Option Nat :=
  let low := selector.extractLsb' 0 4
  if selector.extractLsb' 4 4 = ~~~low then some low.toNat else none

/-- The selector byte of a stream. -/
def selectorOf (stream : BitVec 4) : Byte := ~~~stream ++ stream

/-- A port number from a byte or another number. -/
def portOf (n : Nat) : Option (Fin 8) := if h : n < 8 then some ⟨n, h⟩ else none

/-! ### The register map (R190, section 12.6) -/

/-- The mapped registers; the registers of a port are named by their offset. -/
inductive Reg
  | deviceId
  | revision
  | unit
  | deviceMode
  | resetCause
  | deviceCondition
  | deviceSettings
  | reserved
  | timeHi
  | timeLo
  | supplyStatus
  | linkStatus
  | linkRejects
  | captureCode
  | captureTag
  | captureAddress
  | captureTime
  | runtCount
  | attnPending
  | attnStack
  | attnFloor
  | attnPriority (r : Fin 4)
  | journalConfig
  | journalFill
  | journalNextSeq
  | journalLost
  | kaStatus
  | kaRemaining
  | storeStatus
  | storeGeneration
  | poolFree
  | port (p : Fin 8) (offset : Fin 32)
deriving DecidableEq, Repr

/-- The device register at an address below 0x100. -/
def deviceRegAt (address : Nat) : Option Reg :=
  match address with
  | 0x000 => some .deviceId
  | 0x001 => some .revision
  | 0x002 => some .unit
  | 0x003 => some .deviceMode
  | 0x004 => some .resetCause
  | 0x005 => some .deviceCondition
  | 0x006 => some .deviceSettings
  | 0x007 => some .reserved
  | 0x008 => some .timeHi
  | 0x009 => some .timeLo
  | 0x00A => some .supplyStatus
  | 0x010 => some .linkStatus
  | 0x011 => some .linkRejects
  | 0x012 => some .captureCode
  | 0x013 => some .captureTag
  | 0x014 => some .captureAddress
  | 0x015 => some .captureTime
  | 0x016 => some .runtCount
  | 0x020 => some .attnPending
  | 0x021 => some .attnStack
  | 0x022 => some .attnFloor
  | 0x028 => some (.attnPriority 0)
  | 0x029 => some (.attnPriority 1)
  | 0x02A => some (.attnPriority 2)
  | 0x02B => some (.attnPriority 3)
  | 0x030 => some .journalConfig
  | 0x031 => some .journalFill
  | 0x032 => some .journalNextSeq
  | 0x033 => some .journalLost
  | 0x038 => some .kaStatus
  | 0x039 => some .kaRemaining
  | 0x03C => some .storeStatus
  | 0x03D => some .storeGeneration
  | 0x03E => some .poolFree
  | _ => none

/-- The register mapped at an address (R190). -/
def regAt (address : Nat) : Option Reg :=
  if h : 0x100 ≤ address ∧ address < 0x200 then
    some (.port ⟨(address - 0x100) / 32, by omega⟩ ⟨address % 32, by omega⟩)
  else deviceRegAt address

/-- The address of a port register (R190). -/
def portAddress (p : Fin 8) (offset : Fin 32) : Word := BitVec.ofNat 16 (0x100 + 0x20 * p.val + offset.val)

/-- The read-write registers (section 12.6). -/
def writable : Reg → Bool
  | .deviceSettings => true
  | .attnFloor => true
  | .attnPriority _ => true
  | .journalConfig => true
  | .port _ offset => offset.val ≤ 0x0F && offset.val != 0x06
  | _ => false

/-- A value keeps every field of a port register in range and sets no other bit (R38, R63, R86, R108, R127, R163, R171). -/
def portValueLegal (offset : Fin 32) (v : Word) : Bool :=
  match offset.val with
  | 0x00 => (v &&& 0xFC80#16) == 0#16 && field v 0 3 ≤ 5
  | 0x01 => (v &&& 0xF0C0#16) == 0#16
  | 0x02 => (v &&& 0xF0C0#16) == 0#16
  | 0x03 => (v &&& 0xFECE#16) == 0#16
  | 0x04 => (v &&& 0xF020#16) == 0#16 && field v 0 2 ≤ 2 && field v 2 3 ≤ 5 && 1 ≤ field v 8 4
  | 0x05 => 1 ≤ v.toNat && v.toNat ≤ 8
  | 0x07 => (v &&& 0xFC00#16) == 0#16
  | 0x0B => v.toNat ≤ 8
  | _ => true

/-- A value keeps every field of a register in range and sets no other bit (step 8 of R10; R47, R155). -/
def valueLegal : Reg → Word → Bool
  | .deviceSettings, v => (v &&& 0xFFFE#16) == 0#16
  | .attnFloor, v => (v &&& 0xFFF8#16) == 0#16
  | .attnPriority r, v => (v &&& (if r = 3 then 0xF888#16 else 0x8888#16)) == 0#16
  | .port _ offset, v => portValueLegal offset v
  | _, _ => true

/-- The port registers that a WRITE may not name in SAFE_HOLD (R40). -/
def modeLocked : Reg → Bool
  | .port _ offset =>
    offset.val ≤ 0x04 || offset.val == 0x08 || offset.val == 0x09 || offset.val == 0x0A || offset.val == 0x0B
  | _ => false

/-- A read-write port register set (section 12.6). -/
def PortConfig.setReg (c : PortConfig) (offset : Fin 32) (v : Word) : PortConfig :=
  match offset.val with
  | 0x00 => { c with portMode := v }
  | 0x01 => { c with feedGuard := v }
  | 0x02 => { c with signalGuard := v }
  | 0x03 => { c with safeAction := v }
  | 0x04 => { c with lineConfig := v }
  | 0x05 => { c with quota := v }
  | 0x07 => { c with attnMask := v }
  | 0x08 => { c with expectClass := v }
  | 0x09 => { c with expectIdHi := v }
  | 0x0A => { c with expectIdLo := v }
  | 0x0B => { c with outputLen := v }
  | 0x0C => { c with outputImage := { c.outputImage with w0 := v } }
  | 0x0D => { c with outputImage := { c.outputImage with w1 := v } }
  | 0x0E => { c with outputImage := { c.outputImage with w2 := v } }
  | 0x0F => { c with outputImage := { c.outputImage with w3 := v } }
  | _ => c

/-- A read-write register set. -/
def Settings.setReg (c : Settings) (r : Reg) (v : Word) : Settings :=
  match r with
  | .deviceSettings => { c with deviceSettings := v }
  | .attnFloor => { c with attnFloor := v }
  | .attnPriority i => { c with attnPriority := c.attnPriority.set i v }
  | .journalConfig => { c with journalConfig := v }
  | .port p offset => { c with ports := c.ports.set p ((c.ports.get p).setReg offset v) }
  | _ => c

/-- The entries of a WRITE applied in payload order, the last to an address giving its value (R5). -/
def Settings.apply (c : Settings) (entries : List WriteEntry) : Settings :=
  entries.foldl (fun c e => match regAt e.address.toNat with | some r => c.setReg r e.value | none => c) c

/-! ### Reply status codes (R12) -/

def stAccepted : Byte := 0x00#8
def stAwaiting : Byte := 0x01#8
def stEmpty : Byte := 0x02#8
def stStarting : Byte := 0x03#8
def stNothingReleased : Byte := 0x04#8
def rejKind : Byte := 0x81#8
def rejUnit : Byte := 0x82#8
def rejLength : Byte := 0x83#8
def rejCrc : Byte := 0x84#8
def rejSelector : Byte := 0x85#8
def rejAddress : Byte := 0x86#8
def rejAccess : Byte := 0x87#8
def rejCommand : Byte := 0x88#8
def rejArgument : Byte := 0x89#8
def rejState : Byte := 0x8A#8
def rejBusy : Byte := 0x8B#8
def rejModeJump : Byte := 0x8C#8
def rejQuota : Byte := 0x8D#8
def rejPool : Byte := 0x8E#8
def rejConfirm : Byte := 0x8F#8
def codeRunt : Byte := 0x90#8

/-! ### Commands (R7) -/

/-- The areas of the settings array (section 11.1). -/
inductive Area
  | factory
  | bank (bank : Bank)
deriving DecidableEq, Repr

/-- The size of an area. -/
def areaSize : Area → Nat
  | .factory => factorySize
  | .bank _ => bankSize

/-- A command with its arguments in range. -/
inductive Command
  | confirm (code : Byte) (args : List Byte)
  | clearLinkFault
  | noop
  | goOperate
  | goStandby
  | enterSafe
  | resume
  | clearConditions (scope : Option (Fin 8)) (mask : Word)
  | releaseOutput (p : Fin 8) (feed signal : Bool)
  | bind (p : Fin 8)
  | unbind (p : Fin 8)
  | pause (p : Fin 8)
  | resumePort (p : Fin 8)
  | clearCounters (p : Fin 8)
  | flush (p : Fin 8) (purge : Bool)
  | journalClear
  | journalMark (code : Byte) (detail : List Byte)
  | releaseAttention
  | dismiss (src : Source)
  | kaArm (period : BitVec 3)
  | kaDisarm
  | kaRefresh
  | storeCommit
  | storeRead (area : Area) (offset count : Nat)
  | storeDefaults
  | softReset
  | portReset (p : Fin 8)
deriving DecidableEq, Repr

/-- A command code and argument bytes read: a command, or the code of the refusal at step 8. -/
inductive Parsed
  | refused (code : Byte)
  | ok (c : Command)
deriving DecidableEq, Repr

/-- A command that takes no arguments. -/
def noArgs (args : List Byte) (c : Command) : Parsed := if args.isEmpty then .ok c else .refused rejArgument

/-- A command from an optional reading of its arguments. -/
def argsOr : Option Command → Parsed
  | some c => .ok c
  | none => .refused rejArgument

/-- A command whose one argument is a port 0 to 7. -/
def portArg (args : List Byte) (c : Fin 8 → Command) : Parsed :=
  match args with
  | [b] => argsOr ((portOf b.toNat).map c)
  | _ => .refused rejArgument

/-- The arguments of CONFIRM (R18). -/
def confirmArgs : List Byte → Option Command
  | code :: args => some (.confirm code args)
  | [] => none

/-- The arguments of CLEAR_CONDITIONS (R45): scope and mask. -/
def clearConditionsArgs : List Byte → Option Command
  | [scope, high, low] =>
    let mask := wordOf high low
    if scope.toNat = 8 then
      if mask &&& ~~~deviceFlagMask = 0#16 then some (.clearConditions none mask) else none
    else
      match portOf scope.toNat with
      | some p => if mask &&& ~~~portFlagMask = 0#16 then some (.clearConditions (some p) mask) else none
      | none => none
  | _ => none

/-- The arguments of RELEASE_OUTPUT (R59): port and selection. -/
def releaseOutputArgs : List Byte → Option Command
  | [p, sel] =>
    if sel.toNat ≤ 2 then (portOf p.toNat).map (fun p => .releaseOutput p (sel != 1#8) (sel != 0#8)) else none
  | _ => none

/-- The arguments of FLUSH (R135): port and PURGE. -/
def flushArgs : List Byte → Option Command
  | [p, purge] => if purge.toNat ≤ 1 then (portOf p.toNat).map (fun p => .flush p (purge == 1#8)) else none
  | _ => none

/-- The arguments of JOURNAL_MARK (R147): a code and up to four detail bytes. -/
def journalMarkArgs : List Byte → Option Command
  | code :: detail => if detail.length ≤ 4 then some (.journalMark code detail) else none
  | [] => none

/-- The argument of DISMISS (R161). -/
def dismissArgs : List Byte → Option Command
  | [n] => (sourceOf n.toNat).map Command.dismiss
  | _ => none

/-- The argument of KA_ARM (R167). -/
def kaArmArgs : List Byte → Option Command
  | [code] => if code.toNat ≤ 7 then some (.kaArm (code.setWidth 3)) else none
  | _ => none

/-- The area of a number 0 to 2 (R182). -/
def areaOf (n : Nat) : Option Area :=
  match n with
  | 0 => some .factory
  | 1 => some (.bank .a)
  | 2 => some (.bank .b)
  | _ => none

/-- The arguments of STORE_READ (R182): area, offset, count. -/
def storeReadArgs : List Byte → Option Command
  | [area, high, low, count] =>
    let offset := (wordOf high low).toNat
    match areaOf area.toNat with
    | some a =>
      if 1 ≤ count.toNat && count.toNat ≤ 32 && offset < areaSize a && offset + count.toNat ≤ areaSize a then
        some (.storeRead a offset count.toNat)
      else none
    | none => none
  | _ => none

/-- The command codes with their arguments (R7, R18 and the owning chapters). -/
def parseCommand (code : Byte) (args : List Byte) : Parsed :=
  match code.toNat with
  | 0x01 => argsOr (confirmArgs args)
  | 0x02 => noArgs args .clearLinkFault
  | 0x03 => noArgs args .noop
  | 0x08 => noArgs args .goOperate
  | 0x09 => noArgs args .goStandby
  | 0x0A => noArgs args .enterSafe
  | 0x0B => noArgs args .resume
  | 0x0C => argsOr (clearConditionsArgs args)
  | 0x10 => argsOr (releaseOutputArgs args)
  | 0x18 => portArg args .bind
  | 0x19 => portArg args .unbind
  | 0x1A => portArg args .pause
  | 0x1B => portArg args .resumePort
  | 0x1C => portArg args .clearCounters
  | 0x1D => argsOr (flushArgs args)
  | 0x20 => noArgs args .journalClear
  | 0x21 => argsOr (journalMarkArgs args)
  | 0x24 => noArgs args .releaseAttention
  | 0x25 => argsOr (dismissArgs args)
  | 0x28 => argsOr (kaArmArgs args)
  | 0x29 => noArgs args .kaDisarm
  | 0x2A => noArgs args .kaRefresh
  | 0x30 => noArgs args .storeCommit
  | 0x31 => argsOr (storeReadArgs args)
  | 0x32 => noArgs args .storeDefaults
  | 0x38 => noArgs args .softReset
  | 0x39 => portArg args .portReset
  | _ => .refused rejCommand

/-- The five confirmed commands (section 1.8). -/
def Command.confirmed : Command → Bool
  | .kaArm _ => true
  | .kaDisarm => true
  | .softReset => true
  | .storeCommit => true
  | .storeDefaults => true
  | _ => false

/-- The op of a POST with its data, as step 8 judges it (R9). -/
def postOp (op : Byte) (data : List Byte) : Option Op :=
  if op = 1#8 && data.isEmpty then some .readParam
  else if op = 2#8 && !data.isEmpty then some .writeParam
  else none

end Sys2Proof.Machine
end

