-- ==== Sys2Proof/Machine/Keepalive.lean ====
section
/-! DEFINITION. The keepalive (chapter 10): arming, refresh, warning, and its part of the mode changes (R170). -/

namespace Sys2Proof.Machine

/-- The timer runs exactly in ARMED and WARNED (R165). -/
def KaState.running : KaState → Bool
  | .armed => true
  | .warned => true
  | _ => false

/-- The keepalive entering ARMED with a fresh timer of a period (R165). -/
def Keepalive.arm (_k : Keepalive) (period : BitVec 3) : Keepalive := ⟨.armed, period, 0⟩

/-- KA_REMAINING (R165): the whole milliseconds left until the full period, 0 while the timer is stopped. -/
def Keepalive.remaining (k : Keepalive) : Nat :=
  if k.state.running then keepaliveMs k.period.toNat - k.elapsedMs else 0

/-- One millisecond of the running timer. -/
def Keepalive.millisecond (k : Keepalive) : Keepalive :=
  if k.state.running then { k with elapsedMs := k.elapsedMs + 1 } else k

/-- The keepalive at entry to STANDBY (R170). -/
def State.kaStandby (s : State) : State :=
  let was := s.ka.state
  let s := s.modKa (fun k => { k with state := .disarmed })
  s.logIf (was != .disarmed) (evKaDisarmed 2#8)

/-- The keepalive at ENTER_SAFE (R170). -/
def State.kaSuspend (s : State) : State :=
  if s.ka.state.running then s.modKa (fun k => { k with state := .suspended }) else s

/-- The keepalive at RESUME (R170). -/
def State.kaResume (s : State) : State :=
  if s.ka.state = .expired || s.ka.state = .suspended then
    let s := s.modKa (fun k => k.arm k.period)
    s.log (evKaArmed s.ka.period)
  else s

/-- The auto-arm at the end of STARTUP into OPERATE (R170). -/
def State.kaAutoArm (s : State) : State :=
  if s.cfg.autoArm.toNat = 0 then s
  else
    let period : BitVec 3 := (s.cfg.autoArm - 1#4).setWidth 3
    let s := s.modKa (fun k => k.arm period)
    s.log (evKaArmed period)

/-- KA_ARM executed by its CONFIRM (R167). -/
def State.kaArm (s : State) (period : BitVec 3) : State :=
  let s := s.modKa (fun k => k.arm period)
  let s := s.modCfg (fun c => { c with autoArm := period.setWidth 4 + 1#4 })
  s.log (evKaArmed period)

/-- KA_DISARM executed by its CONFIRM (R168). -/
def State.kaDisarm (s : State) : State :=
  let s := s.modKa (fun k => { k with state := .disarmed })
  let s := s.modCfg (fun c => { c with autoArm := 0#4 })
  s.log (evKaDisarmed 1#8)

/-- KA_REFRESH (R169). -/
def State.kaRefresh (s : State) : State := s.modKa (fun k => k.arm k.period)

/-- The half period expiring in ARMED (R166). -/
def State.kaWarn (s : State) : State :=
  if s.ka.state = .armed then
    let s := s.modKa (fun k => { k with state := .warned, elapsedMs := keepaliveMs k.period.toNat / 2 })
    let s := s.log (evKaWarning s.ka.period)
    s.mark .keepalive 1#8
  else s

end Sys2Proof.Machine
end

