-- ==== Sys2Proof/Machine/Modes.lean ====
section
/-! DEFINITION. The mode changes (section 2.1) with what they do to the ports: entry to STANDBY (R27), to OPERATE (R29) and to
SAFE_HOLD with its safe actions (R31, R32, R172), and RESUME (R34, R173). -/

namespace Sys2Proof.Machine

/-- MODE and SAFE_CAUSE changed together (R25). -/
def State.setMode (s : State) (m : Mode) (cause : SafeCause) : State := { s with mode := m, safeCause := cause }

/-- A port at entry to STANDBY (R27). -/
def State.standbyPort (s : State) (p : Fin 8) : State :=
  (((s.disablePort p).hushFollow p).detach p .standby).settleDue p

/-- A port at entry to OPERATE or at RESUME (R29, R173): the outputs compare their enables, and the engine meets an auto-bind
event. -/
def State.operatePort (s : State) (p : Fin 8) : State := ((s.reEnablePort p).autoBind p false).settleDue p

/-- A port applying its safe action at entry to SAFE_HOLD (R172): an engine that this step detaches takes the reason MODE. -/
def State.safePort (s : State) (p : Fin 8) : State :=
  let before := s.port p
  let c := s.conf p
  let s := (s.reEnablePort p).hushFollow p
  let after := s.port p
  let s :=
    if (c.tether && (!c.safePoll || stoppedNow before.signal after.signal)) || stoppedNow before.feed after.feed then
      s.detach p .mode
    else s
  s.settleDue p

/-- GO_STANDBY from OPERATE or SAFE_HOLD; no effect in STANDBY (R28). -/
def State.goStandby (s : State) : State :=
  if s.mode = .standby then s
  else
    let old := s.mode
    let s := (s.setMode .standby .none).kaStandby
    let s := s.log (evModeChange old .standby 1#8)
    s.forPorts (fun p s => s.standbyPort p)

/-- GO_OPERATE (R29). -/
def State.goOperate (s : State) : State :=
  let old := s.mode
  let s := s.setMode .operate .none
  let s := s.log (evModeChange old .operate 1#8)
  s.forPorts (fun p s => s.operatePort p)

/-- ENTER_SAFE (R31). -/
def State.enterSafe (s : State) : State :=
  let old := s.mode
  let s := (s.setMode .safeHold .host).kaSuspend
  let s := s.log (evModeChange old .safeHold 1#8)
  s.forPorts (fun p s => s.safePort p)

/-- RESUME (R34). -/
def State.resume (s : State) : State :=
  let old := s.mode
  let s := (s.setMode .operate .none).kaResume
  let s := s.log (evModeChange old .operate 1#8)
  s.forPorts (fun p s => s.operatePort p)

/-- The full period of the keepalive expiring in WARNED (R32, R166). -/
def State.kaExpire (s : State) : State :=
  if s.ka.state = .warned then
    let s := s.modKa (fun k => { k with state := .expired })
    let s := s.log (evKaExpired s.ka.period)
    let old := s.mode
    let s := s.setMode .safeHold .keepalive
    let s := s.log (evModeChange old .safeHold 2#8)
    let s := s.setDeviceFlag bitKeepaliveExpired
    let s := s.forPorts (fun p s => s.safePort p)
    (s.mark .keepalive 2#8).mark .mode 2#8
  else s

end Sys2Proof.Machine
end

