-- ==== Sys2Proof/Machine/Supervision.lean ====
section
/-! DEFINITION. The Supervisor (chapter 4): low and hot periods, their announcement and their effect on the ports. -/

namespace Sys2Proof.Machine

/-- The number of line engines that are not DETACHED, which the beginning of a period detaches (R76, R77). -/
def State.liveEngines (s : State) : Nat :=
  (allPorts.filter (fun p => (s.engine p).state != .detached)).length

/-- The Supervisor announces periods in every mode but STARTUP (R79). -/
def State.announces (s : State) : Bool := s.mode != .startup

/-- A port at the beginning of a period (R77): its outputs at the assertion of the inhibit, if this step asserted it, and its
engine detached with reason SUPPLY. -/
def State.supplyPort (s : State) (asserted : Bool) (p : Fin 8) : State :=
  let s := if asserted then s.inhibitPort p else s
  ((s.hushFollow p).detach p .supply).settleDue p

/-- The consequences of the beginning of a period (R77), `was` being the inhibit line before the step. -/
def State.beginPeriod (s : State) (was : Bool) (e : Event) (flag : Nat) (src : Source) : State :=
  let s := s.logIf s.announces e
  let s := s.forPorts (fun p s => s.supplyPort (!was) p)
  let s := s.setDeviceFlag flag
  if s.announces then s.mark src 1#8 else s

/-- The consequences of the end of a period (R78): the outputs at the release of the inhibit, if this step released it. -/
def State.endPeriod (s : State) (e : Event) (src : Source) : State :=
  let s := if s.inhibit then s else s.forPorts (fun p s => s.withOutputs p (fun s => s.uninhibitPort p))
  let s := s.logIf s.announces e
  if s.announces then s.mark src 2#8 else s

/-- The restore settle abandoned (R72, R73). -/
def Supervisor.abandonSettle (u : Supervisor) : Supervisor := { u with field := .low, attempts := bump8 u.attempts }

/-- A fall below 18.0 V (R72). -/
def State.fieldFallsLow (s : State) : State :=
  match s.sup.field with
  | .good =>
    let n := s.liveEngines
    let was := s.inhibit
    let s := s.modSup (fun u => { u with field := .low, attempts := 0#8 })
    s.beginPeriod was (evFieldLowBegin n) bitFieldLow .supply
  | .low => s
  | .restoring => s.modSup Supervisor.abandonSettle

/-- A fall to or below 19.5 V (R72). -/
def State.fieldFalls (s : State) : State :=
  if s.sup.field = .restoring then s.modSup Supervisor.abandonSettle else s

/-- A rise above 19.5 V (R72). -/
def State.fieldRises (s : State) : State :=
  if s.sup.field = .low then s.modSup (fun u => { u with field := .restoring }) else s

/-- The restore settle completing (R72, R78). -/
def State.fieldRestored (s : State) : State :=
  if s.sup.field = .restoring then
    let s := s.modSup (fun u => { u with field := .good })
    s.endPeriod (evFieldLowEnd s.sup.attempts s.inhibit) .supply
  else s

/-- A rise above 160 °C (R74). -/
def State.dieHeats (s : State) : State :=
  if s.sup.hot then s
  else
    let n := s.liveEngines
    let was := s.inhibit
    let s := s.modSup (fun u => { u with hot := true })
    s.beginPeriod was (evThermalBegin n) bitThermal .thermal

/-- A fall below 140 °C (R74). -/
def State.dieCools (s : State) : State :=
  if s.sup.hot then
    let s := s.modSup (fun u => { u with hot := false })
    s.endPeriod (evThermalEnd s.inhibit) .thermal
  else s

end Sys2Proof.Machine
end

