-- ==== Sys2Proof/Machine/Array.lean ====
section
/-! DEFINITION. The settings array as an addressed memory of 4096 bytes (section 11.1): cells with rising addresses, none equal to
the erased byte, which is what an unlisted address reads. -/

namespace Sys2Proof.Machine

/-- The canonical form: addresses strictly rising from `least`, all inside the array, no erased byte listed. -/
def cellsWf (least : Nat) : List Host.Cell → Bool
  | [] => true
  | (a, v) :: rest => least ≤ a && a < arraySize && v != erasedByte && cellsWf (a + 1) rest

/-- The canonical form of the settings array. -/
def Memory.wf (cells : List Host.Cell) : Bool := cellsWf 0 cells

/-- The byte at an address; an unlisted address reads as erased. -/
def cellRead (cells : List Host.Cell) (address : Nat) : Byte :=
  match cells with
  | [] => erasedByte
  | (a, v) :: rest => if a = address then v else cellRead rest address

/-- A byte put at an address in the canonical form, its old entry replaced; an erased byte is not listed. -/
def cellWrite (cells : List Host.Cell) (address : Nat) (v : Byte) : List Host.Cell :=
  match cells with
  | [] => if v = erasedByte then [] else [(address, v)]
  | (a, w) :: rest =>
    if address < a then (if v = erasedByte then (a, w) :: rest else (address, v) :: (a, w) :: rest)
    else if a = address then (if v = erasedByte then rest else (address, v) :: rest)
    else (a, w) :: cellWrite rest address v

/-- Bytes put at consecutive addresses. -/
def cellsWrite (cells : List Host.Cell) (address : Nat) : List Byte → List Host.Cell
  | [] => cells
  | v :: rest => cellsWrite (cellWrite cells address v) (address + 1) rest

/-- A range of addresses erased. -/
def cellsErase (cells : List Host.Cell) (base size : Nat) : List Host.Cell :=
  cells.filter (fun c => !(decide (base ≤ c.1) && decide (c.1 < base + size)))

/-- The first address of an area (section 11.1). -/
def areaBase : Area → Nat
  | .factory => 0x000
  | .bank .a => 0x400
  | .bank .b => 0xA00

/-- What a failed or abandoned phase left in a bank. -/
def Store.left (st : Store) : Area → Option LeftOver
  | .factory => none
  | .bank .a => st.leftA
  | .bank .b => st.leftB

/-- A bank's left-over replaced. -/
def Store.setLeft (st : Store) (bank : Bank) (l : Option LeftOver) : Store :=
  match bank with
  | .a => { st with leftA := l }
  | .b => { st with leftB := l }

/-- The byte at an offset of an area as the array holds it. -/
def Store.byteAt (st : Store) (area : Area) (offset : Nat) : Byte :=
  match st.left area with
  | none => cellRead st.cells (areaBase area + offset)
  | some l =>
    if l.first ≤ offset && offset < l.stop then Config.leftByte l.epoch offset
    else cellRead st.cells (areaBase area + offset)

/-- `n` bytes of an area from an offset. -/
def Store.bytesAt (st : Store) (area : Area) (offset n : Nat) : List Byte :=
  (List.range n).map (fun i => st.byteAt area (offset + i))

/-- A bank erased (R180). -/
def Store.eraseBank (st : Store) (bank : Bank) : Store :=
  { st.setLeft bank none with cells := cellsErase st.cells (areaBase (.bank bank)) bankSize }

/-- Bytes programmed into a bank from an offset (R180). -/
def Store.program (st : Store) (bank : Bank) (offset : Nat) (bytes : List Byte) : Store :=
  { st with cells := cellsWrite st.cells (areaBase (.bank bank) + offset) bytes }

/-- The first SIGNATURE byte of a bank lost: no phase of a commit leaves it before success (R180, R181). -/
def Store.loseSignature (st : Store) (bank : Bank) : Store :=
  let st := match st.left (.bank bank) with
    | some l => st.setLeft bank (some { l with first := max 1 l.first })
    | none => st
  st.program bank 0 [erasedByte]

end Sys2Proof.Machine
end

