-- ==== Sys2Proof/Machine/SettingsStore.lean ====
section
/-! DEFINITION. The settings store (chapter 11): images and packets, the load, the commit machine, STORE_READ's bytes and
STORE_DEFAULTS. -/

namespace Sys2Proof.Machine

/-! ### Images and packets (section 11.1) -/

/-- A packet: its ID and data bytes. -/
structure Packet where
  id : Byte
  data : List Byte
deriving DecidableEq, Repr

/-- The packets of a run up to an END packet that ends it exactly (R175); the first argument bounds the number of packets. -/
def walkPackets : Nat → List Byte → Option (List Packet)
  | 0, _ => none
  | fuel + 1, id :: len :: rest =>
    if id = 0xFF#8 then (if len = 0#8 && rest.isEmpty then some [] else none)
    else if rest.length < len.toNat then none
    else (walkPackets fuel (rest.drop len.toNat)).map (fun t => ⟨id, rest.take len.toNat⟩ :: t)
  | _ + 1, _ => none

/-- The four SIGNATURE bytes (section 11.1). -/
def signature : List Byte := [0x4E#8, 0x4C#8, 0x46#8, 0x53#8]

/-- A word at an offset of an area. -/
def Store.wordAt (st : Store) (area : Area) (offset : Nat) : Word :=
  wordOf (st.byteAt area offset) (st.byteAt area (offset + 1))

/-- The packets of an area that is valid, `none` when it is invalid (R175). -/
def Store.judgeArea (st : Store) (area : Area) : Option (List Packet) :=
  if st.bytesAt area 0 4 = signature then
    let n := (st.wordAt area 6).toNat
    if 2 ≤ n && n ≤ areaSize area - 10 then
      if settingsCrc (st.bytesAt area 0 (8 + n)) = st.wordAt area (8 + n) then walkPackets n (st.bytesAt area 8 n) else none
    else none
  else none

/-- The GENERATION of an area's image. -/
def Store.generationOf (st : Store) (area : Area) : Word := st.wordAt area 4

/-- REVISION from the packets of a valid factory area (R176). -/
def revisionOf (packets : List Packet) : Word :=
  match packets.find? (fun k => k.id == 0x82#8 && k.data.length == 2) with
  | some k => (wordsOf k.data).headD 0#16
  | none => 0#16

/-- The registers of a PORT packet at their offsets, but for the place of POOL_HELD (R178). -/
def portPacketRegs (words : List Word) : List (Fin 32 × Word) :=
  ([0, 1, 2, 3, 4, 5, 6, 7, 8, 9, 10, 11, 12, 13, 14, 15] : List (Fin 32)).zip words |>.filter (fun x => x.1 != 6)

/-- Registers set together if every value passes its range check (R178). -/
def Settings.setAll (c : Settings) (l : List (Reg × Word)) : Option Settings :=
  if l.all (fun x => valueLegal x.1 x.2) then some (l.foldl (fun c x => c.setReg x.1 x.2) c) else none

/-- A packet applied to the settings, `none` when it is skipped (R178). -/
def Settings.applyPacket (c : Settings) (k : Packet) : Option Settings :=
  let words := wordsOf k.data
  match k.id.toNat, k.data.length with
  | 0x01, 2 => c.setAll ([Reg.deviceSettings].zip words)
  | 0x02, 10 =>
    c.setAll ([Reg.attnFloor, .attnPriority 0, .attnPriority 1, .attnPriority 2, .attnPriority 3].zip words)
  | 0x03, 2 => c.setAll ([Reg.journalConfig].zip words)
  | 0x04, 1 =>
    match k.data with
    | [v] => if v.toNat ≤ 8 then some { c with autoArm := v.setWidth 4 } else none
    | _ => none
  | id, 32 =>
    if h : 0x10 ≤ id ∧ id ≤ 0x17 then
      c.setAll ((portPacketRegs words).map (fun x => (Reg.port ⟨id - 0x10, by omega⟩ x.1, x.2)))
    else none
  | _, _ => none

/-- The packets of a bank applied in order (R178): the settings, and the packets skipped. -/
def applyPackets (c : Settings) : List Packet → Settings × List Packet
  | [] => (c, [])
  | k :: rest =>
    match c.applyPacket k with
    | some d => applyPackets d rest
    | none =>
      let r := applyPackets c rest
      (r.1, k :: r.2)

/-- The sixteen registers of a PORT packet; 0 at the place of POOL_HELD (R178). -/
def PortConfig.words (c : PortConfig) : List Word :=
  [c.portMode, c.feedGuard, c.signalGuard, c.safeAction, c.lineConfig, c.quota, 0#16, c.attnMask, c.expectClass,
   c.expectIdHi, c.expectIdLo, c.outputLen, c.outputImage.w0, c.outputImage.w1, c.outputImage.w2, c.outputImage.w3]

/-- A packet's bytes. -/
def packetBytes (id : Byte) (data : List Byte) : List Byte := id :: byteOf data.length :: data

/-- The packet run of an image of the settings, END packet included (R179). -/
def Settings.run (c : Settings) : List Byte :=
  packetBytes 0x01#8 (wordBytes c.deviceSettings)
    ++ packetBytes 0x02#8 ((c.attnFloor :: c.attnPriority.toList).flatMap wordBytes)
    ++ packetBytes 0x03#8 (wordBytes c.journalConfig)
    ++ packetBytes 0x04#8 [c.autoArm.setWidth 8]
    ++ allPorts.flatMap (fun p => packetBytes (0x10#8 + portByte p) ((c.ports.get p).words.flatMap wordBytes))
    ++ packetBytes 0xFF#8 []

/-- The image a commit writes (R179): header, packets, CHECK. -/
def Settings.image (c : Settings) (generation : Word) : List Byte :=
  let run := c.run
  let body := signature ++ wordBytes generation ++ wordBytes (BitVec.ofNat 16 run.length) ++ run
  body ++ wordBytes (settingsCrc body)

/-! ### The load (R176, R177) -/

/-- Bank B is newer when the difference of the generations lies between 1 and 32767 (R177). -/
def newerB (genA genB : Word) : Bool :=
  let d := (genB - genA).toNat
  1 ≤ d && d ≤ 32767

/-- The bank chosen (R177). -/
def chooseBank (validA validB : Bool) (genA genB : Word) : Option Bank :=
  if validA && validB then (if newerB genA genB then some .b else some .a)
  else if validA then some .a
  else if validB then some .b
  else none

/-- The store after the load has judged its areas (R176, R177). -/
def Store.loaded (st : Store) : Store :=
  let factory := st.judgeArea .factory
  let a := (st.judgeArea (.bank .a)).isSome
  let b := (st.judgeArea (.bank .b)).isSome
  let current := chooseBank a b (st.generationOf (.bank .a)) (st.generationOf (.bank .b))
  { st with
    factoryValid := factory.isSome
    revision := (factory.map revisionOf).getD 0#16
    bankA := if a then .valid else .invalid
    bankB := if b then .valid else .invalid
    current := current
    generation := match current with | some k => st.generationOf (.bank k) | none => 0#16 }

/-- The packets of the current bank. -/
def Store.currentPackets (st : Store) : List Packet :=
  match st.current with
  | some k => (st.judgeArea (.bank k)).getD []
  | none => []

/-! ### The commit machine (R179, R180) -/

/-- A commit is in progress (R181). -/
def Store.committing (st : Store) : Bool := st.commit != .idle

/-- The other bank. -/
def otherBank : Bank → Bank
  | .a => .b
  | .b => .a

/-- The target of a commit (R179). -/
def Store.target (st : Store) : Bank :=
  match st.current with
  | some k => otherBank k
  | none => if st.bankA = .bad && st.bankB != .bad then .b else .a

/-- The generation of the image to be written (R179). -/
def Store.nextGeneration (st : Store) : Word :=
  match st.current with
  | some _ => st.generation + 1#16
  | none => 1#16

/-- The state of a bank replaced. -/
def Store.setBank (st : Store) (bank : Bank) (x : BankState) : Store :=
  match bank with
  | .a => { st with bankA := x }
  | .b => { st with bankB := x }

/-- STORE_COMMIT executed by its CONFIRM (R179). -/
def State.storeCommit (s : State) : State :=
  let t := s.store.target
  let job : CommitJob := ⟨t, s.store.nextGeneration, s.cfg⟩
  s.modStore (fun st => { (st.loseSignature t).setBank t .invalid with commit := .erasing job })

/-- The size of the image a commit writes. -/
def CommitJob.size (job : CommitJob) : Nat := (job.snapshot.image job.generation).length

/-- The failure of a commit (R180), the target's bytes from `first` up to `stop` left as the failure left them. -/
def State.commitFailed (s : State) (job : CommitJob) (failing first stop : Nat) : State :=
  let s := { s.modStore (fun st =>
    { (st.setLeft job.target (some ⟨s.free, first, stop⟩)).setBank job.target .bad with
      commit := .idle
      lastResult := BitVec.ofNat 3 (failing + 1) }) with free := s.free + 1 }
  let s := s.setDeviceFlag bitStoreFault
  let s := s.log (evCommitFailed job.target (byteOf failing))
  s.mark .store 2#8

/-- The erase phase ending (R180). -/
def State.eraseEnd (s : State) (ok : Bool) : State :=
  match s.store.commit with
  | .erasing job =>
    if ok then s.modStore (fun st => { st.eraseBank job.target with commit := .programming job })
    else s.commitFailed job 1 0 bankSize
  | _ => s

/-- The programming phase ending (R180): every byte of the image but the first is programmed; a failure has touched no byte
beyond the image. -/
def State.programEnd (s : State) (ok : Bool) : State :=
  match s.store.commit with
  | .programming job =>
    if ok then
      s.modStore (fun st =>
        { st.program job.target 1 ((job.snapshot.image job.generation).drop 1) with commit := .verifying job })
    else s.commitFailed job 2 1 job.size
  | _ => s

/-- The verifying phase ending (R180): success makes the target current. -/
def State.verifyEnd (s : State) (ok : Bool) : State :=
  match s.store.commit with
  | .verifying job =>
    if ok then
      let s := s.modStore (fun st =>
        { (st.program job.target 0 (signature.take 1)).setBank job.target .valid with
          current := some job.target
          generation := job.generation
          commit := .idle
          lastResult := 1#3 })
      let s := s.log (evCommitDone job.target job.generation)
      s.mark .store 1#8
    else s.commitFailed job 3 0 job.size
  | _ => s

/-- A commit abandoned by a device reset (R181): the first SIGNATURE byte is gone, and the other bytes are what the phase
in progress left; after programming they are the image's. -/
def State.abandonCommit (s : State) : State :=
  let s :=
    match s.store.commit with
    | .erasing job =>
      { s.modStore (fun st => st.setLeft job.target (some ⟨s.free, 1, bankSize⟩)) with free := s.free + 1 }
    | .programming job =>
      { s.modStore (fun st => st.setLeft job.target (some ⟨s.free, 1, job.size⟩)) with free := s.free + 1 }
    | _ => s
  s.modStore (fun st => { st with commit := .idle, lastResult := 0#3 })

/-- STORE_DEFAULTS executed by its CONFIRM (R182): every stored register and the auto-arm setting at the factory default, with
the receivers following their new signal mode (R68). -/
def State.storeDefaults (s : State) : State :=
  let old := s.cfg
  let s := s.modCfg (fun _ => Settings.factory)
  s.forPorts (fun p s => s.receiverFollow p (old.ports.get p).signalMode)

end Sys2Proof.Machine
end

