-- ==== Sys2Proof/Machine/Registers.lean ====
section
/-! DEFINITION. The registers as a READ sees them (section 12.6), the quick status byte (R2), the checks of READ and WRITE (R5, R6,
R39 to R41) and the effect of an accepted WRITE (R42). -/

namespace Sys2Proof.Machine

/-! ### Register contents -/

/-- A field of a read-only register: its value, the bit it starts at and its width. -/
structure Field where
  value : Nat
  low : Nat
  width : Nat
deriving DecidableEq, Repr

/-- A register from its fields; bits of no field read 0. -/
def pack (fields : List Field) : Word :=
  fields.foldl (fun w x => w ||| (BitVec.ofNat 16 (x.value % 2 ^ x.width) <<< x.low)) 0#16

/-- SUPPLY_STATUS (R81). -/
def State.supplyStatus (s : State) : Word :=
  pack [⟨fieldStateCode s.sup.field, 0, 2⟩, ⟨bitNat s.sup.hot, 2, 1⟩, ⟨bitNat s.inhibit, 3, 1⟩, ⟨s.sup.attempts.toNat, 8, 8⟩]

/-- LINK_STATUS (R17). -/
def Link.status (l : Link) : Word := pack [⟨l.lastTag.toNat, 0, 8⟩, ⟨l.lastKind.toNat, 8, 3⟩, ⟨bitNat l.replyCut, 11, 1⟩]

/-- The first register of LINK_FAULT_CAPTURE (R19). -/
def Capture.word (c : Capture) : Word :=
  pack [⟨c.code.toNat, 0, 8⟩, ⟨c.kind.toNat, 8, 3⟩, ⟨bitNat c.overflow, 14, 1⟩, ⟨bitNat c.held, 15, 1⟩]

/-- ATTN_PENDING (R152). -/
def State.attnPending (s : State) : Word := bitsWhere (allSources.map (fun x => (sourceNumber x, s.isPending x)))

/-- ATTN_STACK (R159). -/
def State.attnStack (s : State) : Word :=
  let top := s.attn.stack.head?
  pack
    [⟨s.attn.stack.length, 0, 3⟩, ⟨(top.map (fun e => sourceNumber e.source)).getD 15, 4, 4⟩,
     ⟨(top.map (fun e => e.priority.toNat)).getD 0, 8, 3⟩, ⟨s.ceiling, 12, 3⟩]

/-- JOURNAL_FILL (R149). -/
def Journal.fillWord (j : Journal) : Word := pack [⟨j.entries.length, 0, 6⟩, ⟨j.refusals.toNat, 8, 8⟩]

/-- KA_STATUS (R165). -/
def State.kaStatus (s : State) : Word :=
  pack [⟨kaStateCode s.ka.state, 0, 3⟩, ⟨s.ka.period.toNat, 4, 3⟩, ⟨s.cfg.autoArm.toNat, 8, 4⟩]

/-- STORE_STATUS (R183). -/
def Store.status (st : Store) : Word :=
  pack
    [⟨commitCode st.commit, 0, 2⟩, ⟨(st.current.map bankCode).getD 0, 2, 2⟩, ⟨bankStateCode st.bankA, 4, 2⟩,
     ⟨bankStateCode st.bankB, 6, 2⟩, ⟨st.lastResult.toNat, 8, 3⟩, ⟨bitNat st.factoryValid, 11, 1⟩]

/-- POOL_HELD (R126). -/
def Port.poolHeld (pt : Port) : Word :=
  pack
    [⟨pt.heldCount, 0, 4⟩, ⟨pt.queue.length, 4, 4⟩, ⟨pt.done.length, 8, 4⟩, ⟨bitNat pt.inFlight.isSome, 12, 1⟩,
     ⟨bitNat pt.noticeHeld, 13, 1⟩]

/-- PORT_STATE (R48, R101). -/
def Port.stateWord (pt : Port) : Word :=
  pack
    [⟨engStateCode pt.engine.state, 0, 3⟩, ⟨bitNat pt.engine.pauseRequested, 3, 1⟩, ⟨reasonCode pt.engine.reason, 4, 4⟩,
     ⟨outStateCode pt.feed.state, 8, 3⟩, ⟨outStateCode pt.signal.state, 12, 3⟩]

/-- INPUT_STATUS (R65, R111). -/
def State.inputStatus (s : State) (p : Fin 8) : Word :=
  let pt := s.port p
  pack
    [⟨bitNat (pt.engine.valid && (s.conf p).tether), 0, 1⟩, ⟨bitNat pt.rx.level, 1, 1⟩, ⟨bitNat (s.rawLevel p), 2, 1⟩,
     ⟨bitNat pt.rx.settling.isSome, 3, 1⟩, ⟨bitNat pt.engine.fault, 4, 1⟩, ⟨bitNat pt.engine.notice, 5, 1⟩,
     ⟨pt.engine.inputLen.toNat, 8, 4⟩]

/-- CONSEC_TRIPS (R69). -/
def Port.consecTrips (pt : Port) : Word := wordOf pt.signal.count pt.feed.count

/-- The register of a port at an offset (section 12.6). -/
def State.readPortReg (s : State) (p : Fin 8) (offset : Fin 32) : Word :=
  let pt := s.port p
  let c := s.conf p
  match offset.val with
  | 0x00 => c.portMode
  | 0x01 => c.feedGuard
  | 0x02 => c.signalGuard
  | 0x03 => c.safeAction
  | 0x04 => c.lineConfig
  | 0x05 => c.quota
  | 0x06 => pt.poolHeld
  | 0x07 => c.attnMask
  | 0x08 => c.expectClass
  | 0x09 => c.expectIdHi
  | 0x0A => c.expectIdLo
  | 0x0B => c.outputLen
  | 0x0C => c.outputImage.w0
  | 0x0D => c.outputImage.w1
  | 0x0E => c.outputImage.w2
  | 0x0F => c.outputImage.w3
  | 0x10 => pt.stateWord
  | 0x11 => pt.condition
  | 0x12 => s.inputStatus p
  | 0x13 => pt.engine.inputImage.w0
  | 0x14 => pt.engine.inputImage.w1
  | 0x15 => pt.engine.inputImage.w2
  | 0x16 => pt.engine.inputImage.w3
  | 0x17 => pt.engine.nodeClass
  | 0x18 => pt.engine.nodeId.extractLsb' 16 16
  | 0x19 => pt.engine.nodeId.extractLsb' 0 16
  | 0x1A => pt.engine.retryCount
  | 0x1B => pt.engine.failedExchanges
  | 0x1C => pt.engine.missedTicks
  | 0x1D => pt.feed.trips
  | 0x1E => pt.signal.trips
  | _ => pt.consecTrips

/-- The contents of every mapped register (section 12.6). -/
def State.readReg (s : State) : Reg → Word
  | .deviceId => deviceId
  | .revision => s.store.revision
  | .unit => s.link.unit.setWidth 16
  | .deviceMode => pack [⟨modeCode s.mode, 0, 2⟩, ⟨safeCauseCode s.safeCause, 2, 2⟩]
  | .resetCause => s.resetCause.setWidth 16
  | .deviceCondition => s.deviceCondition
  | .deviceSettings => s.cfg.deviceSettings
  | .reserved => 0#16
  | .timeHi => s.timeBase.extractLsb' 16 16
  | .timeLo => s.timeBase.extractLsb' 0 16
  | .supplyStatus => s.supplyStatus
  | .linkStatus => s.link.status
  | .linkRejects => s.link.rejects
  | .captureCode => s.link.capture.word
  | .captureTag => s.link.capture.tag.setWidth 16
  | .captureAddress => s.link.capture.address
  | .captureTime => s.link.capture.time
  | .runtCount => s.link.runts
  | .attnPending => s.attnPending
  | .attnStack => s.attnStack
  | .attnFloor => s.cfg.attnFloor
  | .attnPriority r => s.cfg.attnPriority[r]
  | .journalConfig => s.cfg.journalConfig
  | .journalFill => s.journal.fillWord
  | .journalNextSeq => s.journal.nextSeq
  | .journalLost => s.journal.lost
  | .kaStatus => s.kaStatus
  | .kaRemaining => BitVec.ofNat 16 s.ka.remaining
  | .storeStatus => s.store.status
  | .storeGeneration => s.store.generation
  | .poolFree => BitVec.ofNat 16 s.freeSlots.length
  | .port p offset => s.readPortReg p offset

/-- The register at an address, 0 where none is mapped. -/
def State.readAddress (s : State) (address : Nat) : Word :=
  match regAt address with
  | some r => s.readReg r
  | none => 0#16

/-! ### The MISO pin -/

/-- The quick status byte (R2). -/
def State.quickStatus (s : State) : Byte :=
  byteOf
    (64 * modeCode s.mode + 32 * bitNat (s.mode == .startup) + 16 * bitNat s.atn + 8 * bitNat (!s.journal.entries.isEmpty)
      + 4 * bitNat (allPorts.any (fun p => !(s.port p).done.isEmpty)) + 2 * bitNat s.link.confirm.isSome + bitNat s.inhibit)

/-- The byte on MISO in the request phase of a frame that begins at the next CS assertion (R2): the quick status byte, and 0x00
during a reset interval (R184). The frame before is over then, whatever became of it. -/
def State.misoRequest (s : State) : Byte := if s.resetLine.isSome then 0x00#8 else s.quickStatus

/-- The byte on MISO while CS stays asserted after the last command that concerned the frame, `n` bytes on (R1, R2, R16, R24): the
reply byte by byte and then 0x00; 0x00 throughout in an abandoned or dropped frame and in a reset interval; and the quick status
byte while a request has not ended. -/
def State.misoNext (s : State) (n : Nat) : Byte :=
  if s.resetLine.isSome then 0x00#8
  else
    match s.link.phase with
    | .replying r _ _ => r.bytes.getD n 0x00#8
    | .ignoring => 0x00#8
    | .idle => s.quickStatus

/-! ### READ (R6) -/

/-- A refusal: the status code and the capture address (R5, R6, R19). -/
structure Refused where
  code : Byte
  address : Word
deriving DecidableEq, Repr

/-- The addresses of a READ's range, at most sixteen, limited to the count (R6). -/
def readRange (start count : Nat) : List Nat := (List.range (min count 16)).map (fun i => start + i)

/-- The checks of a READ at steps 6 and 8 (R6). -/
def judgeRead (start : Word) (count : Byte) : Option Refused :=
  match (readRange start.toNat count.toNat).find? (fun a => (regAt a).isNone) with
  | some a => some ⟨rejAddress, BitVec.ofNat 16 a⟩
  | none => if 1 ≤ count.toNat && count.toNat ≤ 16 then none else some ⟨rejArgument, 0#16⟩

/-- The payload of an accepted READ. -/
def State.readBytes (s : State) (start : Word) (count : Byte) : List Byte :=
  (readRange start.toNat count.toNat).flatMap (fun a => wordBytes (s.readAddress a))

/-! ### WRITE (R5, R38 to R41) -/

/-- An entry names an unmapped address (step 6). -/
def WriteEntry.unmapped (e : WriteEntry) : Bool := (regAt e.address.toNat).isNone

/-- An entry names a register that software cannot write (step 7). -/
def WriteEntry.readOnly (e : WriteEntry) : Bool := (regAt e.address.toNat).any (fun r => !writable r)

/-- An entry's value is out of range (step 8). -/
def WriteEntry.outOfRange (e : WriteEntry) : Bool := (regAt e.address.toNat).any (fun r => !valueLegal r e.value)

/-- An entry names a register under a mode lock (R40). -/
def WriteEntry.locked (e : WriteEntry) : Bool := (regAt e.address.toNat).any modeLocked

/-- The fields under a state lock differ (R41). -/
def stateLockedChange (before after : PortConfig) : Bool :=
  before.rate != after.rate || before.outputLen != after.outputLen || before.expectClass != after.expectClass
    || before.expectIdHi != after.expectIdHi || before.expectIdLo != after.expectIdLo

/-- A port under the state lock: WAKING, BOUND or PAUSED (R41). -/
def Engine.stateLocked (e : Engine) : Bool := e.state == .waking || e.state == .bound || e.state == .paused

/-- A jump between two different driving signal modes (R39). -/
def modeJump (before after : PortConfig) : Bool :=
  drivingMode before.signalMode && drivingMode after.signalMode && before.signalMode != after.signalMode

/-- The checks of a WRITE at step 9 (R40, R41): it is refused in this state. -/
def State.writeLocked (s : State) (entries : List WriteEntry) : Bool :=
  (s.mode == .safeHold && entries.any WriteEntry.locked)
    || (s.mode == .operate
        && allPorts.any (fun p =>
          (s.engine p).stateLocked && stateLockedChange (s.conf p) ((s.cfg.apply entries).ports.get p)))

/-- The checks of a WRITE at steps 6 to 11 (R5, R39 to R41). -/
def State.judgeWrite (s : State) (entries : List WriteEntry) : Option Refused :=
  match entries.find? WriteEntry.unmapped with
  | some e => some ⟨rejAddress, e.address⟩
  | none =>
    match entries.find? WriteEntry.readOnly with
    | some e => some ⟨rejAccess, e.address⟩
    | none =>
      if entries.any WriteEntry.outOfRange then some ⟨rejArgument, 0#16⟩
      else if s.writeLocked entries then some ⟨rejState, 0#16⟩
      else if allPorts.any (fun p => modeJump (s.conf p) ((s.cfg.apply entries).ports.get p)) then
        some ⟨rejModeJump, 0#16⟩
      else none

/-- An output whose enable a WRITE has changed from the one it had under `old` (R51). -/
def State.reEnableChanged (s : State) (p : Fin 8) (old : PortConfig) (o : Out) : State :=
  if outEnabled s.mode old o = s.enabled p o then s else s.reEnable p o

/-- The consequences of a WRITE for one port, `old` being its configuration before (R38, R42, R51, R62, R103). -/
def State.portWritten (s : State) (p : Fin 8) (old : PortConfig) : State :=
  let c := s.conf p
  if old.portMode = c.portMode then s
  else
    let s := s.receiverFollow p old.signalMode
    let before := s.port p
    let s := (s.reEnableChanged p old .feed).reEnableChanged p old .signal
    let s := if old.tether && !c.tether then ((s.hushFollow p).detach p .mode).settleDue p else s.engineFollow p before
    if (c.tether && !old.tether) || (c.autoBind && !old.autoBind) then (s.autoBind p false).settleDue p else s

/-- The configuration of a port that governs the step of a WRITE from `old` to `new`. An output that enters ENGAGED in the step is
evaluated under the old CURRENT code, because the new one is compared from the end of the step on (R52, R42), while a timer that
starts in the step takes the new delay code (notes/assumptions/33.md). PORT_ATTN_MASK acts on what follows the step (R163;
notes/assumptions/12.md). -/
def PortConfig.inStep (old new : PortConfig) : PortConfig :=
  { new with
    feedGuard := guardWithCurrent new.feedGuard old.feedGuard
    signalGuard := guardWithCurrent new.signalGuard old.signalGuard
    attnMask := old.attnMask }

/-- The settings that govern the step of a WRITE from `old` to `new`: JOURNAL_CONFIG acts on what follows the step (R139;
notes/assumptions/12.md). -/
def Settings.inStep (old new : Settings) : Settings :=
  { new with journalConfig := old.journalConfig, ports := old.ports.zipWith PortConfig.inStep new.ports }

/-- The effect of an accepted WRITE (R5, R42): the consequences in the step, and then every register at its new value. -/
def State.applyWrite (s : State) (entries : List WriteEntry) : State :=
  let old := s.cfg
  let new := old.apply entries
  let s := (s.modCfg (fun _ => old.inStep new)).forPorts (fun p s => s.portWritten p (old.ports.get p))
  s.modCfg (fun _ => new)

end Sys2Proof.Machine
end

