-- ==== Sys2Proof/Machine/Reset.lean ====
section
/-! DEFINITION. The resets (chapter 12): the reset interval (R184), the device reset step (R185), the end of start-up (R187) and
PORT_RESET (R189). -/

namespace Sys2Proof.Machine

/-! ### The device resets -/

/-- The cause of a device reset (R186). -/
inductive ResetCause
  | power
  | pin
  | soft
deriving DecidableEq, Repr

/-- The RESET_CAUSE codes (R186). -/
def resetCauseCode : ResetCause → BitVec 2
  | .power => 1#2
  | .pin => 2#2
  | .soft => 3#2

/-- Both lines of a reset interval together: it is a power-on if the logic supply was invalid at some moment (R184). -/
def joinResetLine (before : Option ResetLine) (line : ResetLine) : ResetLine :=
  if before = some .power then .power else line

/-- The frame decoder after a reset step that ends an interval (R24, R184): a frame in progress, begun before the interval or in
it, is ignored until its CS is released (notes/assumptions/32.md). -/
def phaseAfter (sample : Sample) : FramePhase := if sample.inFrame then .ignoring else .idle

/-- The beginning of a reset interval (R184): outputs off, ATN released, the Time Base held at 0; the frame in progress is dropped,
and what is clocked in the interval is ignored. -/
def State.beginReset (s : State) (line : ResetLine) : State :=
  { s with
    resetLine := some (joinResetLine s.resetLine line)
    atn := false
    timeBase := 0#32
    attn := { s.attn with claim := none }
    link := { s.link with phase := .ignoring }
    ports := s.ports.map (fun pt => { pt with feed := pt.feed.disable, signal := pt.signal.disable }) }

/-- The cause of the reset step that ends an interval; a step without an interval on record is a power-on
(notes/assumptions/18.md). -/
def endingCause : Option ResetLine → ResetCause
  | some .pin => .pin
  | _ => .power

/-- DEVICE_CONDITION after a reset step: RESET_OCCURRED and the sample's flags (R47, R83). -/
def resetCondition (low hot : Bool) : Word :=
  bitsWhere [(bitFieldLow, low), (bitThermal, hot), (bitResetOccurred, true)]

/-- The journal after a device reset (R151). -/
def Journal.afterReset (j : Journal) (cause : ResetCause) : Journal :=
  if cause = ResetCause.soft then { j with call := none } else ⟨[], 0#16, 0#8, 0#16, none⟩

/-- The entry of a device reset (item 13 of R185). -/
def resetEvent (cause : ResetCause) (mode : Mode) : Event :=
  match cause with
  | .power => evPowerUp 1#8
  | .pin => evPowerUp 2#8
  | .soft => evSoftReset mode

/-- The device reset step (R185). The settings store keeps its array; its status follows at the load. -/
def State.deviceReset (s : State) (cause : ResetCause) (sample : Sample) (phase : FramePhase) : State :=
  let old := s.mode
  let s := s.abandonCommit
  let s :=
    { s with
      mode := .startup
      safeCause := .none
      deviceCondition := resetCondition (!sample.vfieldHigh) sample.dieAbove140
      resetCause := resetCauseCode cause
      resetLine := none
      cfg := Settings.factory
      link := { Link.reset sample.straps with phase := phase }
      ports := Eight.all Port.reset
      sup := ⟨if sample.vfieldHigh then .good else .low, sample.dieAbove140, 0#8⟩
      journal := s.journal.afterReset cause
      timeBase := if cause = ResetCause.soft then s.timeBase else 0#32
      attn := Attention.reset
      atn := false
      ka := Keepalive.reset
      store := { s.store with revision := 0#16 }
      pins := { s.pins with vfieldHigh := sample.vfieldHigh } }
  (s.log (resetEvent cause old)).modJournal (fun j => { j with call := none })

/-- The device reset step that ends a reset interval (R184, R185). -/
def State.endReset (s : State) (sample : Sample) : State := s.deviceReset (endingCause s.resetLine) sample (phaseAfter sample)

/-- What a soft reset samples (R24, R83, R188): the straps, which may have changed since the last reset; the field supply; and
the die, which is above 140 °C while it is hot and may be while it is cool (notes/assumptions/5.md). -/
def State.softSample (s : State) : Sample where
  straps := Config.straps s.free
  vfieldHigh := s.pins.vfieldHigh
  dieAbove140 := s.sup.hot || Config.dieAbove140 s.free
  inFrame := true

/-- SOFT_RESET executed by its CONFIRM (R188). -/
def State.softReset (s : State) : State :=
  let sample := s.softSample
  let t : State := { s with free := s.free + 1 }
  t.deviceReset .soft sample .idle

/-! ### The end of start-up (R187) -/

/-- AUTO_OPERATE (R47). -/
def Settings.autoOperate (c : Settings) : Bool := c.deviceSettings.getLsbD 0

/-- The mode that start-up ends in (R26). -/
def Settings.startMode (c : Settings) : Mode := if c.autoOperate then .operate else .standby

/-- The entry of the load's outcome (R177). -/
def Store.loadEvent (st : Store) : Event :=
  match st.current with
  | some k => evStoreLoaded k st.generation
  | none => evDefaultsUsed (!st.factoryValid)

/-- The entries of the step in the order of item 3 of R187, but for KA_ARMED. -/
def State.loadEvents (s : State) (skipped : List Packet) (new : Mode) : List Event :=
  skipped.map (fun k => evPacketSkipped k.id (byteOf k.data.length))
    ++ [s.store.loadEvent]
    ++ (if s.sup.hot then [evThermalBegin 0] else [])
    ++ (if s.fieldIsLow then [evFieldLowBegin 0] else [])
    ++ [evModeChange .startup new 3#8]

/-- Several events raised in turn. -/
def State.logAll (s : State) (events : List Event) : State := events.foldl State.log s

/-- The completion of the store load in STARTUP (R187). -/
def State.loadComplete (s : State) : State :=
  let st := s.store.loaded
  let applied := applyPackets s.cfg st.currentPackets
  let s := { s with store := st, cfg := applied.1 }
  let s := if st.factoryValid then s else s.setDeviceFlag bitStoreFault
  let new := s.cfg.startMode
  let s := s.setMode new .none
  let s := s.forPorts (fun p s => s.receiverAfresh p)
  let s := s.logAll (s.loadEvents applied.2 new)
  let s := if new = .operate then (s.forPorts (fun p s => s.operatePort p)).kaAutoArm else s
  let s := if s.sup.hot then s.mark .thermal 1#8 else s
  let s := if s.fieldIsLow then s.mark .supply 1#8 else s
  if new = .operate then s.mark .mode 1#8 else s

/-- The completion of the store load; outside STARTUP no load is under way. -/
def State.endStartup (s : State) : State := if s.mode = .startup then s.loadComplete else s

/-! ### PORT_RESET (R189) -/

/-- The effect of PORT_RESET; the reply and the entry carry the ENGINE code and held count of the state before. The step marks
no attention source, so that the journal's call for attention (R143) is dropped here as in a device reset step
(notes/assumptions/19.md). -/
def State.portReset (s : State) (p : Fin 8) : State :=
  let engine := byteOf (engStateCode (s.engine p).state)
  let freed := byteOf (s.port p).heldCount
  let s := s.modPort p (fun _ => Port.reset)
  let s := s.modAttn (fun a => a.setLatch (.port p) (emptyLatch (.port p)))
  let s := s.receiverAfresh p
  let s := s.operatePort p
  (s.log (evPortReset p engine freed)).modJournal (fun j => { j with call := none })

end Sys2Proof.Machine
end

