-- ==== Sys2Proof/Machine/Link.lean ====
section
/-! DEFINITION. The host link (chapter 1): the checks of a frame, its effect as one step, rejects, runts, the confirmation and the
end of a frame. -/

namespace Sys2Proof.Machine

/-! ### What an accepted frame does -/

/-- The outcome of an accepted frame's own effect: the state, the reply, what a FETCH delivered, and whether LINK_STATUS records
the frame (R13, R17; not for the CONFIRM of a SOFT_RESET, R24). -/
structure Done where
  state : State
  status : Byte
  payload : List Byte
  delivery : Delivery
  recorded : Bool
deriving DecidableEq, Repr

/-- An ACCEPTED outcome with a payload. -/
def accepted (s : State) (payload : List Byte) : Done := ⟨s, stAccepted, payload, .nothing, true⟩

/-- The register CLEAR_CONDITIONS acts on (R45). -/
def State.conditionOf (s : State) : Option (Fin 8) → Word
  | none => s.deviceCondition
  | some p => (s.port p).condition

/-- CLEAR_CONDITIONS (R45). -/
def State.clearConditions (s : State) (scope : Option (Fin 8)) (mask : Word) : State :=
  match scope with
  | none => { s with deviceCondition := clearFlags s.deviceCondition mask s.deviceHolds }
  | some p => s.modPort p (fun pt => { pt with condition := clearFlags pt.condition mask pt.holds })

/-- RELEASE_OUTPUT (R59): the selected outputs in turn, FEED first, with the engine's response (R62). -/
def State.releaseOutputs (s : State) (p : Fin 8) (feed signal : Bool) : State :=
  s.withOutputs p (fun s =>
    let s := if feed then s.releaseOut p .feed else s
    if signal then s.releaseOut p .signal else s)

/-- The reply byte of RELEASE_OUTPUT (R59). -/
def State.releasedByte (s : State) (p : Fin 8) (feed signal : Bool) : Byte :=
  byteOf
    (bitNat (feed && (s.port p).feed.state == .latched) + 2 * bitNat (signal && (s.port p).signal.state == .latched))

/-- FLUSH (R135). -/
def State.flush (s : State) (p : Fin 8) (purge : Bool) : State :=
  s.modPort p (fun pt => { pt with queue := [], done := if purge then [] else pt.done })

/-- JOURNAL_CLEAR (R146). -/
def State.journalClear (s : State) : State :=
  let n := s.journal.entries.length
  (s.modJournal (fun j => { j with entries := [] })).log (evJournalCleared n)

/-- The reply of JOURNAL_MARK (R147). -/
def Recording.payload : Recording → List Byte
  | .recorded seq => 0#8 :: wordBytes seq
  | .filtered => [1#8, 0#8, 0#8]
  | .refused => [2#8, 0#8, 0#8]

/-- RELEASE_ATTENTION (R160). -/
def State.releaseAttention (s : State) : Done :=
  match s.attn.stack with
  | [] => ⟨s, stNothingReleased, [], .nothing, true⟩
  | e :: rest =>
    accepted (s.modAttn (fun a => { a with stack := rest }))
      [byteOf (sourceNumber e.source), byteOf e.priority.toNat]

/-- DISMISS (R161). -/
def State.dismiss (s : State) (src : Source) : State := s.modAttn (fun a => a.setLatch src (emptyLatch src))

/-- The reply of DISMISS (R161). -/
def State.dismissPayload (s : State) (src : Source) : List Byte :=
  byteOf (bitNat (s.isPending src)) :: wordBytes (s.attn.latch src).word

/-- The preconditions of a command at steps 9 and 10 (the owning chapters): the code of the refusal. -/
def Command.check (c : Command) (s : State) : Option Byte :=
  match c with
  | .goOperate =>
    if s.mode ≠ .standby then some rejState else if s.store.committing then some rejBusy else none
  | .enterSafe => if s.mode = .operate then none else some rejState
  | .resume => if s.mode = .safeHold then none else some rejState
  | .bind p =>
    let e := (s.engine p).state
    if s.mode = .operate && (s.conf p).tether && (s.port p).feed.state == .engaged && (s.port p).signal.state == .engaged
        && (e == .detached || e == .lost || e == .held) then none
    else some rejState
  | .pause p => if (s.engine p).state = .bound then none else some rejState
  | .resumePort p =>
    let e := s.engine p
    if (s.mode == .operate || s.mode == .safeHold) && (e.state == .paused || (e.state == .bound && e.pauseRequested)) then
      none
    else some rejState
  | .kaArm _ => if s.mode = .operate then none else some rejState
  | .kaDisarm => if s.ka.state.running then none else some rejState
  | .kaRefresh => if s.ka.state.running then none else some rejState
  | .storeCommit =>
    if s.mode ≠ .standby then some rejState else if s.store.committing then some rejBusy else none
  | .storeDefaults =>
    if s.mode ≠ .standby then some rejState else if s.store.committing then some rejBusy else none
  | .storeRead (.bank _) _ _ => if s.store.committing then some rejBusy else none
  | _ => none

/-- A command executed (R7 and the owning chapters); a CONFIRM is executed as the command it confirms (R22). -/
def Command.run (c : Command) (s : State) : Done :=
  match c with
  | .confirm _ _ => accepted s []
  | .clearLinkFault => accepted (s.modLink (fun l => { l with capture := Capture.empty })) []
  | .noop => accepted s []
  | .goOperate => accepted s.goOperate []
  | .goStandby => accepted s.goStandby []
  | .enterSafe => accepted s.enterSafe []
  | .resume => accepted s.resume []
  | .clearConditions scope mask =>
    let t := s.clearConditions scope mask
    accepted t (wordBytes (mask &&& t.conditionOf scope))
  | .releaseOutput p feed signal => accepted (s.releaseOutputs p feed signal) [s.releasedByte p feed signal]
  | .bind p => accepted (s.enterWaking p) []
  | .unbind p => accepted (s.unbind p) []
  | .pause p => accepted (s.pausePort p) []
  | .resumePort p => accepted (s.resumePort p) []
  | .clearCounters p => accepted (s.clearCounters p) []
  | .flush p purge =>
    accepted (s.flush p purge)
      [byteOf (s.port p).queue.length, byteOf (if purge then (s.port p).done.length else 0)]
  | .journalClear => accepted s.journalClear [byteOf s.journal.entries.length]
  | .journalMark code detail =>
    let e := evHostMark code detail
    accepted (s.log e) (s.journal.judge s.cfg.journalConfig e).payload
  | .releaseAttention => s.releaseAttention
  | .dismiss src => accepted (s.dismiss src) (s.dismissPayload src)
  | .kaArm period => accepted (s.kaArm period) []
  | .kaDisarm => accepted s.kaDisarm []
  | .kaRefresh => accepted s.kaRefresh (wordBytes (BitVec.ofNat 16 s.ka.remaining))
  | .storeCommit => accepted s.storeCommit [byteOf (bankCode s.store.target)]
  | .storeRead area offset count => accepted s (s.store.bytesAt area offset count)
  | .storeDefaults => accepted s.storeDefaults []
  | .softReset => ⟨s.softReset, stAccepted, [], .nothing, false⟩
  | .portReset p =>
    accepted (s.portReset p) [byteOf (engStateCode (s.engine p).state), byteOf (s.port p).heldCount]

/-! ### FETCH (R133, R144, R157) -/

/-- An EMPTY outcome. -/
def empty (s : State) (payload : List Byte) : Done := ⟨s, stEmpty, payload, .nothing, true⟩

/-- FETCH of a port stream (R133). -/
def State.fetchPort (s : State) (p : Fin 8) : Done :=
  match (s.port p).done with
  | [] => empty s []
  | d :: _ => ⟨s, stAccepted, d.payload, .slot p d.request.slot, true⟩

/-- The bytes of an entry (section 8.1). -/
def Entry.bytes (e : Entry) : List Byte :=
  wordBytes e.seq ++ wordBytes (e.time.extractLsb' 16 16) ++ wordBytes (e.time.extractLsb' 0 16)
    ++ [e.source, e.code, e.gap, byteOf e.detail.length] ++ e.detail

/-- FETCH of the journal (R144). -/
def State.fetchJournal (s : State) : Done :=
  match s.journal.entries with
  | [] => empty s []
  | e :: _ => ⟨s, stAccepted, e.bytes, .entry e.seq, true⟩

/-- The more urgent of the source chosen so far and a later one: a later source must have a greater priority (R157). -/
def State.moreUrgent (s : State) (best : Option Source) (src : Source) : Option Source :=
  if s.deliverable src then
    match best with
    | none => some src
    | some b => if (s.cfg.priority b).toNat < (s.cfg.priority src).toNat then some src else some b
  else best

/-- The source a claim chooses: the deliverable one of highest priority, the lowest number among equals (R157). -/
def State.claimChoice (s : State) : Option Source := allSources.foldl s.moreUrgent none

/-- FETCH of the attention claim (R157). -/
def State.fetchClaim (s : State) : Done :=
  match s.claimChoice with
  | none => empty s [0xFF#8, byteOf s.ceiling]
  | some src =>
    let priority := s.cfg.priority src
    ⟨s.modAttn (fun a => { a with claim := some ⟨src, priority, emptyLatch src⟩ }), stAccepted,
      [byteOf (sourceNumber src), byteOf priority.toNat] ++ wordBytes (s.attn.latch src).word, .claim, true⟩

/-- A FETCH of a stream 0 to 9 (R8). -/
def State.fetch (s : State) (stream : Nat) : Done :=
  match portOf stream with
  | some p => s.fetchPort p
  | none => if stream = 8 then s.fetchJournal else s.fetchClaim

/-! ### POST (R128, R129) -/

/-- The checks of a POST at steps 9, 12 and 13. -/
def State.judgePost (s : State) (p : Fin 8) : Option Byte :=
  let e := (s.engine p).state
  if !(s.mode == .operate && (s.conf p).tether && (e == .waking || e == .bound || e == .paused || e == .lost)) then
    some rejState
  else if s.quota p ≤ (s.port p).heldCount then some rejQuota
  else if s.freeSlots.isEmpty then some rejPool
  else none

/-- A POST accepted: the lowest FREE slot queued (R129). -/
def State.post (s : State) (p : Fin 8) (tag : Byte) (op : Op) (index : Word) (subindex : Byte) (data : List Byte) : Done :=
  match s.freeSlots with
  | [] => accepted s []
  | n :: _ => accepted (s.enqueue p ⟨n, .host, tag, op, index, subindex, data⟩) [byteOf n.val]

/-! ### The acceptance of a frame (R10) -/

/-- What a frame asks for, once its checks have passed. -/
inductive Action
  | write (entries : List WriteEntry)
  | read (start : Word) (count : Byte)
  | run (c : Command)
  | pend (code : Byte) (args : List Byte)
  | execute (c : Command)
  | fetch (stream : Nat)
  | post (p : Fin 8) (tag : Byte) (op : Op) (index : Word) (subindex : Byte) (data : List Byte)
deriving DecidableEq, Repr

/-- The judgement of a frame: the action, or the first check that fails; `usesUp` marks a CONFIRM refused at step 14 or at its
re-check, which removes the pending confirmation (R22). -/
inductive Judgement
  | accept (a : Action)
  | reject (why : Refused) (usesUp : Bool)
deriving DecidableEq, Repr

/-- A refusal with capture address 0. -/
def rejectWith (code : Byte) : Judgement := .reject ⟨code, 0#16⟩ false

/-- An action unless a check refuses it. -/
def acceptUnless (why : Option Refused) (a : Action) : Judgement :=
  match why with
  | some w => .reject w false
  | none => .accept a

/-- An action unless a check refuses it with a code. -/
def acceptUnlessCode (why : Option Byte) (a : Action) : Judgement :=
  match why with
  | some code => rejectWith code
  | none => .accept a

/-- A CONFIRM at step 14 and its re-check (R22). -/
def State.judgeConfirm (s : State) (code : Byte) (args : List Byte) : Judgement :=
  match s.link.confirm with
  | none => .reject ⟨rejConfirm, 0#16⟩ true
  | some c =>
    if c.code = code && c.args = args then
      match parseCommand code args with
      | .refused code => .reject ⟨code, 0#16⟩ true
      | .ok cmd =>
        match cmd.check s with
        | some code => .reject ⟨code, 0#16⟩ true
        | none => .accept (.execute cmd)
    else .reject ⟨rejConfirm, 0#16⟩ true

/-- An ISSUE at steps 8 to 10 and 14 (R7, R21, R22). -/
def State.judgeIssue (s : State) (code : Byte) (args : List Byte) : Judgement :=
  match parseCommand code args with
  | .refused why => rejectWith why
  | .ok (.confirm code args) => s.judgeConfirm code args
  | .ok c => acceptUnlessCode (c.check s) (if c.confirmed then .pend code args else .run c)

/-- A FETCH at step 5 (R4). -/
def judgeFetch (selector : Byte) : Judgement :=
  match selectorStream selector with
  | some n => if n ≤ 9 then .accept (.fetch n) else rejectWith rejSelector
  | none => rejectWith rejSelector

/-- A POST at steps 5, 8, 9, 12 and 13 (R4, R9, R128, R129). -/
def State.judgePostFrame (s : State) (selector tag op : Byte) (index : Word) (subindex : Byte) (data : List Byte) : Judgement :=
  match (selectorStream selector).bind portOf with
  | none => rejectWith rejSelector
  | some p =>
    match postOp op data with
    | none => rejectWith rejArgument
    | some o => acceptUnlessCode (s.judgePost p) (.post p tag o index subindex data)

/-- The payload of a frame at steps 5 to 14, by its kind (R5 to R9). -/
def State.judgePayload (s : State) (kind : Nat) (payload : List Byte) : Judgement :=
  match kind, payload with
  | 1, bytes => acceptUnless (s.judgeWrite (entriesOf bytes)) (.write (entriesOf bytes))
  | 2, [a1, a0, count] => acceptUnless (judgeRead (wordOf a1 a0) count) (.read (wordOf a1 a0) count)
  | 3, code :: args => s.judgeIssue code args
  | 4, [selector] => judgeFetch selector
  | 5, selector :: tag :: op :: i1 :: i0 :: subindex :: data =>
    s.judgePostFrame selector tag op (wordOf i1 i0) subindex data
  | _, _ => rejectWith rejLength

/-- The acceptance checks of a completed request, in the order of R10. -/
def State.judge (s : State) (f : Frame) : Judgement :=
  if !headerLegal f.kind f.low then rejectWith rejKind
  else if f.unit ≠ s.link.unit then rejectWith rejUnit
  else if !lengthLegal f.kind f.length.toNat then rejectWith rejLength
  else if f.check ≠ frameCrc f.covered then rejectWith rejCrc
  else s.judgePayload f.kind.toNat f.payload

/-! ### Rejects (R19, R20) -/

/-- The capture at a reject (R19). -/
def Capture.take (c : Capture) (kind : BitVec 3) (code tag : Byte) (address time : Word) : Capture :=
  if c.held then { c with overflow := true } else ⟨true, false, kind, code, tag, address, time⟩

/-- A reject counted, captured, journalled and marked (R20). -/
def State.reject (s : State) (why : Refused) (kind : BitVec 3) (tag : Byte) : State :=
  let s :=
    s.modLink (fun l =>
      { l with
        rejects := bump16 l.rejects
        runts := if why.code = codeRunt then bump16 l.runts else l.runts
        capture := l.capture.take kind why.code tag why.address (s.timeBase.extractLsb' 0 16) })
  let s := s.log (evLinkReject why.code kind tag)
  s.mark .link why.code

/-! ### A frame as one step (R13) -/

/-- The frame decoder in a new phase. -/
def State.setPhase (s : State) (phase : FramePhase) : State := s.modLink (fun l => { l with phase := phase })

/-- The pending confirmation removed. -/
def State.dropConfirm (s : State) : State := s.modLink (fun l => { l with confirm := none })

/-- The lapse of the pending confirmation, if there is one (R23): cause 1 replaced, 2 timeout. Its entry is recorded here, so that a
frame that replaces the confirmation has the entry in the journal before its own effect (notes/assumptions/34.md). -/
def State.lapse (s : State) (cause : Byte) : State :=
  match s.link.confirm with
  | some c => s.dropConfirm.log (evConfirmLapsed c cause)
  | none => s

/-- A first step remembered (R21). -/
def State.pend (s : State) (code : Byte) (args : List Byte) (tag : Byte) : Done :=
  ⟨s.modLink (fun l => { l with confirm := some ⟨code, args, tag⟩ }), stAwaiting, [], .nothing, true⟩

/-- The own effect of an accepted frame (item 2 of R13). -/
def Action.perform (a : Action) (tag : Byte) (s : State) : Done :=
  match a with
  | .write entries => accepted (s.applyWrite entries) []
  | .read start count => accepted s (s.readBytes start count)
  | .run c => c.run s
  | .pend code args => s.pend code args tag
  | .execute c => c.run s
  | .fetch stream => s.fetch stream
  | .post p hostTag op index subindex data => s.post p hostTag op index subindex data

/-- What an accepted frame does to the pending confirmation (item 1 of R13): a CONFIRM uses it up, any other frame replaces it. -/
def Action.endConfirm (a : Action) (s : State) : State :=
  match a with
  | .execute _ => s.dropConfirm
  | _ => s.lapse 1#8

/-- The tag and kind of an accepted frame recorded (item 3 of R13, R17). -/
def State.record (s : State) (f : Frame) : State :=
  s.modLink (fun l => { l with lastTag := f.tag, lastKind := f.kind, replyCut := false })

/-- The record of the outcome and the beginning of the reply phase. -/
def Done.close (d : Done) (f : Frame) : State :=
  (if d.recorded then d.state.record f else d.state).setPhase (.replying ⟨d.status, f.tag, d.payload⟩ d.recorded d.delivery)

/-- An accepted frame (R13). The CONFIRM_LAPSED entry of item 1 precedes item 2, so that a READ of the journal's registers and a
FETCH of stream 8 show it in their own reply (notes/assumptions/34.md). -/
def State.accept (s : State) (f : Frame) (a : Action) : State := (a.perform f.tag (a.endConfirm s)).close f

/-- A rejected frame, with its reply (R12, R20, R22). -/
def State.refuse (s : State) (f : Frame) (why : Refused) (usesUp : Bool) : State :=
  let s := if usesUp then s.dropConfirm else s
  (s.reject why f.kind f.tag).setPhase (.replying ⟨why.code, f.tag, []⟩ false .nothing)

/-- The end of whatever frame was in progress: nothing of it is committed (R14, R158; notes/assumptions/17.md). -/
def State.dropFrame (s : State) : State :=
  (s.setPhase .idle).modAttn (fun a => { a with claim := none })

/-- A completed request at its verification point (R10 to R13). -/
def State.frame (s : State) (f : Frame) : State :=
  let s := s.dropFrame
  if s.mode = .startup then s.setPhase (.replying ⟨stStarting, f.tag, []⟩ false .nothing)
  else
    match s.judge f with
    | .accept a => s.accept f a
    | .reject why usesUp => s.refuse f why usesUp

/-- A request cut short, as a runt (R15, R16): counted unless the device is in STARTUP (R11); `phase` is what the decoder does
next. -/
def State.runt (s : State) (mosi : List Byte) (phase : FramePhase) : State :=
  let s := s.dropFrame.setPhase phase
  if s.mode = .startup then s else s.reject ⟨codeRunt, 0#16⟩ (runtKind mosi) (runtTag mosi)

/-- The bytes clocked before CS is released: a completed request, a runt, or no frame at all (R1, R15; notes/assumptions/26.md). -/
def State.bytes (s : State) (mosi : List Byte) : State :=
  match completedRequest mosi with
  | some f => s.frame f
  | none => if mosi.isEmpty then s else s.runt mosi .idle

/-- The bytes clocked before a stall of 20 ms (R16): a runt even without a byte, unless the request was complete. -/
def State.stall (s : State) (mosi : List Byte) : State :=
  match completedRequest mosi with
  | some f => s.frame f
  | none => s.runt mosi .ignoring

/-! ### The end of a frame (R14, R17) -/

/-- CS released before the reply's CHECK byte is out (R17): nothing is committed. Here and at the clean ends below, the release of
an ignored frame's CS has no effect but that the next frame begins at the next CS assertion (R16, R24;
notes/assumptions/17.md). -/
def State.cutReply (s : State) : State :=
  match s.link.phase with
  | .replying _ recorded _ =>
    if recorded then s.dropFrame.modLink (fun l => { l with replyCut := true }) else s.dropFrame
  | .ignoring => s.setPhase .idle
  | _ => s

/-- The clean end of a FETCH of a port stream (R134). -/
def State.commitSlot (s : State) : State :=
  match s.link.phase with
  | .replying _ _ (.slot p n) => s.dropFrame.freeHead p n
  | .replying _ _ .nothing => s.dropFrame
  | .ignoring => s.setPhase .idle
  | _ => s

/-- The journal without its oldest entry, if that entry has a SEQ (R145). -/
def Journal.removeOldest (j : Journal) (seq : Word) : Journal :=
  match j.entries with
  | e :: rest => if e.seq = seq then { j with entries := rest } else j
  | [] => j

/-- The clean end of a FETCH of the journal (R145). -/
def State.commitEntry (s : State) : State :=
  match s.link.phase with
  | .replying _ _ (.entry seq) => s.dropFrame.modJournal (fun j => j.removeOldest seq)
  | .replying _ _ .nothing => s.dropFrame
  | .ignoring => s.setPhase .idle
  | _ => s

/-- A claim committed (R158): the latch becomes the late record, and the source goes into service. -/
def Attention.commit (a : Attention) : Attention :=
  match a.claim with
  | some c => { a.setLatch c.source c.late with stack := ⟨c.source, c.priority⟩ :: a.stack, claim := none }
  | none => a

/-- The clean end of a claim (R158). -/
def State.commitClaim (s : State) : State :=
  match s.link.phase with
  | .replying _ _ .claim => (s.modAttn Attention.commit).dropFrame
  | .replying _ _ .nothing => s.dropFrame
  | .ignoring => s.setPhase .idle
  | _ => s

end Sys2Proof.Machine
end

