-- ==== Sys2Proof/Machine/Order.lean ====
section
/-! DEFINITION. The order of events that fall at the same instant (R36), as the order in which they join the queue. -/

namespace Sys2Proof.Machine

/-- The place of one of an output's events within its port: FEED before SIGNAL. -/
def outPlace : Out → Nat
  | .feed => 0
  | .signal => 1

/-- A place within the port part of a level: ports 0 to 7 in turn, ten places each. -/
def portPlace (p : Fin 8) (place : Nat) : Nat := 10 * p.val + place

/-- The precedence of a command among those of its instant (R36): hundreds for the levels 1 to 4, then the parts of level 5, then
levels 6 and 7. A raw level change stands with its port's overcurrent events, after those of SIGNAL (R65). -/
def rank : Instr → Nat
  | .resetInterval _ => 100
  | .deviceResetStep _ => 101
  | .thermalRise => 200
  | .thermalFall => 201
  | .fieldFallToHigh => 300
  | .fieldFallBelowLow => 301
  | .fieldRiseAboveHigh => 302
  | .restoreSettleExpiry => 303
  | .overcurrentBegin p o => 400 + portPlace p (outPlace o.out)
  | .overcurrentEnd p o => 400 + portPlace p (outPlace o.out)
  | .rawLevelChange p _ => 400 + portPlace p 2
  | .kaWarning => 500
  | .kaExpired => 501
  | .trip p o => 510 + portPlace p (outPlace o)
  | .restart p o => 510 + portPlace p (outPlace o)
  | .settle p o => 510 + portPlace p (outPlace o)
  | .debounceExpiry p => 510 + portPlace p 2
  | .endOfTransmission p => 510 + portPlace p 3
  | .hushSent p => 510 + portPlace p 3
  | .answerWindowExpiry p => 510 + portPlace p 4
  | .turnaroundExpiry p => 510 + portPlace p 5
  | .tick p => 510 + portPlace p 6
  | .wakeSpacingExpiry p => 510 + portPlace p 7
  | .rebindDelayExpiry p => 510 + portPlace p 8
  | .confirmLapsed => 595
  | .eraseComplete _ => 596
  | .programComplete _ => 596
  | .verifyComplete _ => 596
  | .storeLoadComplete => 597
  | .parcelReception p _ => 600 + portPlace p 0
  | .write _ _ => 700
  | .signalModeChange _ _ _ => 700
  | .feedEnableChange _ _ _ => 700
  | .driveLevelChange _ _ _ => 700
  | .autoBindSet _ _ _ => 700
  | .attnPriorityWrite _ _ _ => 700
  | .attnFloorWrite _ _ => 700
  | .startingFrame _ => 700
  | .runt _ => 700
  | .requestPhaseTimeout _ => 700
  | .replyCut => 700
  | .fetchPortStream _ _ => 700
  | .fetchPortCommit => 700
  | .fetchJournal _ => 700
  | .fetchJournalCommit => 700
  | .claim _ => 700
  | .claimCommit => 700
  | .post _ _ _ _ _ _ _ => 700
  | .confirm _ _ => 700
  | .clearLinkFault _ _ => 700
  | .noop _ _ => 700
  | .goOperate _ _ => 700
  | .goStandby _ _ => 700
  | .enterSafe _ _ => 700
  | .resume _ _ => 700
  | .clearConditions _ _ => 700
  | .releaseOutput _ _ => 700
  | .bind _ _ => 700
  | .unbind _ _ => 700
  | .pause _ _ => 700
  | .resumePort _ _ => 700
  | .clearCounters _ _ => 700
  | .flush _ _ => 700
  | .journalClear _ _ => 700
  | .journalMark _ _ => 700
  | .releaseAttention _ _ => 700
  | .dismiss _ _ => 700
  | .kaArm _ _ => 700
  | .kaDisarm _ _ => 700
  | .kaRefresh _ _ => 700
  | .storeCommit _ _ => 700
  | .storeRead _ _ => 700
  | .storeDefaults _ _ => 700
  | .softReset _ _ => 700
  | .portReset _ _ => 700
  | .read _ _ _ => 700
  | .reject _ => 700

/-- A command put among ranked ones, after those of its own rank. -/
def insertRanked (i : Instr) : List Instr → List Instr
  | [] => [i]
  | j :: rest => if rank i < rank j then i :: j :: rest else j :: insertRanked i rest

/-- The commands of one instant in their order; equal ranks keep the order in which they are given
(notes/assumptions/30.md). -/
def ranked (batch : List Instr) : List Instr := batch.foldl (fun l i => insertRanked i l) []

/-- A reset at level 1 discards every other event of its instant (R36). -/
def survivors (batch : List Instr) : List Instr :=
  if batch.any (fun i => rank i < 200) then batch.filter (fun i => rank i < 200) else batch

/-- The commands of one instant joining the queue. -/
def State.arrive (s : State) (batch : List Instr) : State :=
  { s with pending := s.pending ++ ranked (survivors batch) }

end Sys2Proof.Machine
end

