-- ==== Sys2Proof/Machine/DeviceEvents.lean ====
section
/-! DEFINITION. The meanings of the events of the keepalive, the settings store and the resets (chapters 10 to 12). -/

namespace Sys2Proof.Machine

/-- KA_WARNING (R166). -/
def execKaWarning (s : State) : Host.Outcome State Fault Refusal :=
  takeEvent State.kaWarn s

/-- KA_EXPIRED (R32, R166). -/
def execKaExpired (s : State) : Host.Outcome State Fault Refusal :=
  takeEvent State.kaExpire s

/-- STORE_LOAD_COMPLETE (R187). -/
def execStoreLoadComplete (s : State) : Host.Outcome State Fault Refusal :=
  takeEvent State.endStartup s

/-- ERASE_COMPLETE (R180). -/
def execEraseComplete (ok : Bool) (s : State) : Host.Outcome State Fault Refusal :=
  takeEvent (fun s => s.eraseEnd ok) s

/-- PROGRAM_COMPLETE (R180). -/
def execProgramComplete (ok : Bool) (s : State) : Host.Outcome State Fault Refusal :=
  takeEvent (fun s => s.programEnd ok) s

/-- VERIFY_COMPLETE (R180). -/
def execVerifyComplete (ok : Bool) (s : State) : Host.Outcome State Fault Refusal :=
  takeEvent (fun s => s.verifyEnd ok) s

/-- RESET_INTERVAL (R184). -/
def execResetInterval (line : ResetLine) (s : State) : Host.Outcome State Fault Refusal :=
  .next (s.beginReset line)

/-- DEVICE_RESET_STEP (R185). -/
def execDeviceResetStep (sample : Sample) (s : State) : Host.Outcome State Fault Refusal :=
  .next (s.endReset sample).finish


end Sys2Proof.Machine
end

