-- ==== Sys2Proof/Machine/FieldEvents.lean ====
section
/-! DEFINITION. The meanings of the events of the field side: outputs, receivers, field supply and die (chapters 3 and 4). -/

namespace Sys2Proof.Machine

/-- An event that reports a change of an input from outside: the input changes even during a reset interval, in which nothing else
happens (R184; notes/assumptions/21.md). -/
def takePinEvent (pins : State → State) (f : State → State) (s : State) : Host.Outcome State Fault Refusal :=
  .next (if (pins s).resetLine.isSome then pins s else (f (pins s)).finish)

/-- The load of an output replaced (R52; notes/assumptions/3.md). -/
def Pins.setLoad (x : Pins) (p : Fin 8) (o : Out) (milliamps : Nat) : Pins :=
  match o with
  | .feed => { x with loadFeed := x.loadFeed.set p milliamps }
  | .signal => { x with loadSignal := x.loadSignal.set p milliamps }

/-- The state with the load of an output replaced. -/
def State.withLoad (s : State) (p : Fin 8) (o : Out) (milliamps : Nat) : State :=
  s.modPins (fun x => x.setLoad p o milliamps)

/-- The field supply's place above or below 19.5 V. -/
def Pins.setField (x : Pins) (high : Bool) : Pins := { x with vfieldHigh := high }

/-- OVERCURRENT_BEGIN (R52, R53): the load rises to a current above the cut-off current; with a current that is not, no such
event has happened (notes/assumptions/3.md). -/
def execOvercurrentBegin (p : Fin 8) (o : Load) (s : State) : Host.Outcome State Fault Refusal :=
  if (s.withLoad p o.out o.milliamps).overloaded p o.out then
    takePinEvent (fun s => s.withLoad p o.out o.milliamps) (fun s => s.overBegin p o.out) s
  else takeEvent id s

/-- OVERCURRENT_END (R52, R53): the load falls to a current that is not above the cut-off current, with the bind due that it may
fulfil (R103); with a current above it, no such event has happened (notes/assumptions/3.md). -/
def execOvercurrentEnd (p : Fin 8) (o : Load) (s : State) : Host.Outcome State Fault Refusal :=
  if (s.withLoad p o.out o.milliamps).overloaded p o.out then takeEvent id s
  else
    takePinEvent (fun s => s.withLoad p o.out o.milliamps) (fun s => s.withOutputs p (fun s => s.overEnd p o.out)) s

/-- TRIP (R54). -/
def execTrip (p : Fin 8) (o : Out) (s : State) : Host.Outcome State Fault Refusal :=
  takeEvent (fun s => s.withOutputs p (fun s => s.tripOut p o)) s

/-- RESTART (R56). -/
def execRestart (p : Fin 8) (o : Out) (s : State) : Host.Outcome State Fault Refusal :=
  takeEvent (fun s => s.withOutputs p (fun s => s.restartOut p o)) s

/-- SETTLE (R57). -/
def execSettle (p : Fin 8) (o : Out) (s : State) : Host.Outcome State Fault Refusal :=
  takeEvent (fun s => s.settleOut p o) s

/-- The raw level of a SIGNAL line replaced. -/
def Pins.setRaw (x : Pins) (p : Fin 8) (level : Bool) : Pins := { x with raw := x.raw.set p level }

/-- RAW_LEVEL_CHANGE (R66); a level that the line already has is no change. -/
def execRawLevelChange (p : Fin 8) (level : Bool) (s : State) : Host.Outcome State Fault Refusal :=
  takePinEvent (fun s => s.modPins (fun x => x.setRaw p level))
    (fun t => if level = s.pins.raw.get p then t else t.rawChange p level) s

/-- DEBOUNCE_EXPIRY (R66). -/
def execDebounceExpiry (p : Fin 8) (s : State) : Host.Outcome State Fault Refusal :=
  takeEvent (fun s => s.debounceEnd p) s

/-- FIELD_FALL_BELOW_LOW (R72, R77). -/
def execFieldFallBelowLow (s : State) : Host.Outcome State Fault Refusal :=
  takePinEvent (fun s => s.modPins (fun x => x.setField false)) State.fieldFallsLow s

/-- FIELD_FALL_TO_HIGH (R72). -/
def execFieldFallToHigh (s : State) : Host.Outcome State Fault Refusal :=
  takePinEvent (fun s => s.modPins (fun x => x.setField false)) State.fieldFalls s

/-- FIELD_RISE_ABOVE_HIGH (R72). -/
def execFieldRiseAboveHigh (s : State) : Host.Outcome State Fault Refusal :=
  takePinEvent (fun s => s.modPins (fun x => x.setField true)) State.fieldRises s

/-- RESTORE_SETTLE_EXPIRY (R72, R78). -/
def execRestoreSettleExpiry (s : State) : Host.Outcome State Fault Refusal :=
  takeEvent State.fieldRestored s

/-- THERMAL_RISE (R74, R77). -/
def execThermalRise (s : State) : Host.Outcome State Fault Refusal :=
  takeEvent State.dieHeats s

/-- THERMAL_FALL (R74, R78). -/
def execThermalFall (s : State) : Host.Outcome State Fault Refusal :=
  takeEvent State.dieCools s


end Sys2Proof.Machine
end

