-- ==== Sys2Proof/Machine/HostFrames.lean ====
section
/-! DEFINITION. The meanings of the host frames that are not commands: WRITE and its rows, READ, FETCH, POST, and the frames given as bytes
(chapter 1). -/

namespace Sys2Proof.Machine

/-- A completed request taken at its verification point as one step (R10 to R13). -/
def takeFrame (f : Frame) : State → Host.Outcome State Fault Refusal := takeEvent (fun s => s.frame f)

/-- An ISSUE of a command code with argument bytes. -/
def issueFrame (f : FrameHead) (code : Byte) (args : List Byte) : Frame := requestOf f kindIssue (code :: args)

/-- A WRITE of one register. -/
def writeOne (f : FrameHead) (address value : Word) : Frame := requestOf f kindWrite (entryBytes [⟨address, value⟩])

/-- A FETCH of a stream. -/
def fetchFrame (f : FrameHead) (selector : Byte) : Frame := requestOf f kindFetch [selector]

/-- WRITE (R5). -/
def execWrite (f : FrameHead) (entries : List WriteEntry) (s : State) : Host.Outcome State Fault Refusal :=
  takeFrame (requestOf f kindWrite (entryBytes entries)) s

/-- SIGNAL_MODE_CHANGE (R38). -/
def execSignalModeChange (f : FrameHead) (p : Fin 8) (value : Word) (s : State) : Host.Outcome State Fault Refusal :=
  takeFrame (writeOne f (portAddress p 0) value) s

/-- FEED_ENABLE_CHANGE (R49). -/
def execFeedEnableChange (f : FrameHead) (p : Fin 8) (value : Word) (s : State) : Host.Outcome State Fault Refusal :=
  takeFrame (writeOne f (portAddress p 0) value) s

/-- DRIVE_LEVEL_CHANGE (R64). -/
def execDriveLevelChange (f : FrameHead) (p : Fin 8) (value : Word) (s : State) : Host.Outcome State Fault Refusal :=
  takeFrame (writeOne f (portAddress p 0) value) s

/-- AUTO_BIND_SET (R103). -/
def execAutoBindSet (f : FrameHead) (p : Fin 8) (value : Word) (s : State) : Host.Outcome State Fault Refusal :=
  takeFrame (writeOne f (portAddress p 0) value) s

/-- ATTN_PRIORITY_WRITE (R162). -/
def execAttnPriorityWrite (f : FrameHead) (r : Fin 4) (value : Word) (s : State) : Host.Outcome State Fault Refusal :=
  takeFrame (writeOne f (BitVec.ofNat 16 (0x028 + r.val)) value) s

/-- ATTN_FLOOR_WRITE (R162). -/
def execAttnFloorWrite (f : FrameHead) (value : Word) (s : State) : Host.Outcome State Fault Refusal :=
  takeFrame (writeOne f 0x0022#16 value) s

/-- READ (R6). -/
def execRead (f : FrameHead) (start : Word) (count : Byte) (s : State) : Host.Outcome State Fault Refusal :=
  takeFrame (requestOf f kindRead (wordBytes start ++ [count])) s

/-- FETCH_PORT_STREAM (R133). -/
def execFetchPortStream (f : FrameHead) (selector : Byte) (s : State) : Host.Outcome State Fault Refusal :=
  takeFrame (fetchFrame f selector) s

/-- FETCH_JOURNAL (R144). -/
def execFetchJournal (f : FrameHead) (s : State) : Host.Outcome State Fault Refusal :=
  takeFrame (fetchFrame f (selectorOf 8#4)) s

/-- CLAIM (R157). -/
def execClaim (f : FrameHead) (s : State) : Host.Outcome State Fault Refusal :=
  takeFrame (fetchFrame f (selectorOf 9#4)) s

/-- POST (R129). -/
def execPost (f : FrameHead) (selector hostTag op : Byte) (index : Word) (subindex : Byte) (data : List Byte) (s : State) : Host.Outcome State Fault Refusal :=
  takeFrame (requestOf f kindPost ([selector, hostTag, op] ++ wordBytes index ++ [subindex] ++ data)) s

/-- STARTING_FRAME (R11): a frame of any bytes, answered STARTING while the device is in STARTUP. -/
def execStartingFrame (mosi : List Byte) (s : State) : Host.Outcome State Fault Refusal :=
  takeEvent (fun s => s.bytes mosi) s

/-- REJECT (R20): a frame of any bytes, rejected at the first check it fails. -/
def execReject (mosi : List Byte) (s : State) : Host.Outcome State Fault Refusal :=
  takeEvent (fun s => s.bytes mosi) s

/-- RUNT (R15). -/
def execRunt (mosi : List Byte) (s : State) : Host.Outcome State Fault Refusal :=
  takeEvent (fun s => s.bytes mosi) s

/-- REQUEST_PHASE_TIMEOUT (R16). -/
def execRequestPhaseTimeout (mosi : List Byte) (s : State) : Host.Outcome State Fault Refusal :=
  takeEvent (fun s => s.stall mosi) s

/-- REPLY_CUT (R17). -/
def execReplyCut (s : State) : Host.Outcome State Fault Refusal :=
  takeEvent State.cutReply s

/-- FETCH_PORT_COMMIT (R134). -/
def execFetchPortCommit (s : State) : Host.Outcome State Fault Refusal :=
  takeEvent State.commitSlot s

/-- FETCH_JOURNAL_COMMIT (R145). -/
def execFetchJournalCommit (s : State) : Host.Outcome State Fault Refusal :=
  takeEvent State.commitEntry s

/-- CLAIM_COMMIT (R158). -/
def execClaimCommit (s : State) : Host.Outcome State Fault Refusal :=
  takeEvent State.commitClaim s

/-- CONFIRM_LAPSED (R23): the lapse timer expires. -/
def execConfirmLapsed (s : State) : Host.Outcome State Fault Refusal :=
  takeEvent (fun s => s.lapse 2#8) s


end Sys2Proof.Machine
end

