-- ==== Sys2Proof/Machine/HostCommands.lean ====
section
/-! DEFINITION. The meanings of the commands that an ISSUE carries (R7, R18), one for each command code. -/

namespace Sys2Proof.Machine

/-- CONFIRM (R22). -/
def execConfirm (f : FrameHead) (args : List Byte) (s : State) : Host.Outcome State Fault Refusal :=
  takeFrame (issueFrame f 0x01#8 args) s

/-- CLEAR_LINK_FAULT (R18). -/
def execClearLinkFault (f : FrameHead) (args : List Byte) (s : State) : Host.Outcome State Fault Refusal :=
  takeFrame (issueFrame f 0x02#8 args) s

/-- NOOP (R18). -/
def execNoop (f : FrameHead) (args : List Byte) (s : State) : Host.Outcome State Fault Refusal :=
  takeFrame (issueFrame f 0x03#8 args) s

/-- GO_OPERATE (R29). -/
def execGoOperate (f : FrameHead) (args : List Byte) (s : State) : Host.Outcome State Fault Refusal :=
  takeFrame (issueFrame f 0x08#8 args) s

/-- GO_STANDBY (R28). -/
def execGoStandby (f : FrameHead) (args : List Byte) (s : State) : Host.Outcome State Fault Refusal :=
  takeFrame (issueFrame f 0x09#8 args) s

/-- ENTER_SAFE (R31). -/
def execEnterSafe (f : FrameHead) (args : List Byte) (s : State) : Host.Outcome State Fault Refusal :=
  takeFrame (issueFrame f 0x0A#8 args) s

/-- RESUME (R34). -/
def execResume (f : FrameHead) (args : List Byte) (s : State) : Host.Outcome State Fault Refusal :=
  takeFrame (issueFrame f 0x0B#8 args) s

/-- CLEAR_CONDITIONS (R45). -/
def execClearConditions (f : FrameHead) (args : List Byte) (s : State) : Host.Outcome State Fault Refusal :=
  takeFrame (issueFrame f 0x0C#8 args) s

/-- RELEASE_OUTPUT (R59). -/
def execReleaseOutput (f : FrameHead) (args : List Byte) (s : State) : Host.Outcome State Fault Refusal :=
  takeFrame (issueFrame f 0x10#8 args) s

/-- BIND (R118). -/
def execBind (f : FrameHead) (args : List Byte) (s : State) : Host.Outcome State Fault Refusal :=
  takeFrame (issueFrame f 0x18#8 args) s

/-- UNBIND (R119). -/
def execUnbind (f : FrameHead) (args : List Byte) (s : State) : Host.Outcome State Fault Refusal :=
  takeFrame (issueFrame f 0x19#8 args) s

/-- PAUSE (R120). -/
def execPause (f : FrameHead) (args : List Byte) (s : State) : Host.Outcome State Fault Refusal :=
  takeFrame (issueFrame f 0x1A#8 args) s

/-- RESUME_PORT (R121). -/
def execResumePort (f : FrameHead) (args : List Byte) (s : State) : Host.Outcome State Fault Refusal :=
  takeFrame (issueFrame f 0x1B#8 args) s

/-- CLEAR_COUNTERS (R122). -/
def execClearCounters (f : FrameHead) (args : List Byte) (s : State) : Host.Outcome State Fault Refusal :=
  takeFrame (issueFrame f 0x1C#8 args) s

/-- FLUSH (R135). -/
def execFlush (f : FrameHead) (args : List Byte) (s : State) : Host.Outcome State Fault Refusal :=
  takeFrame (issueFrame f 0x1D#8 args) s

/-- JOURNAL_CLEAR (R146). -/
def execJournalClear (f : FrameHead) (args : List Byte) (s : State) : Host.Outcome State Fault Refusal :=
  takeFrame (issueFrame f 0x20#8 args) s

/-- JOURNAL_MARK (R147). -/
def execJournalMark (f : FrameHead) (args : List Byte) (s : State) : Host.Outcome State Fault Refusal :=
  takeFrame (issueFrame f 0x21#8 args) s

/-- RELEASE_ATTENTION (R160). -/
def execReleaseAttention (f : FrameHead) (args : List Byte) (s : State) : Host.Outcome State Fault Refusal :=
  takeFrame (issueFrame f 0x24#8 args) s

/-- DISMISS (R161). -/
def execDismiss (f : FrameHead) (args : List Byte) (s : State) : Host.Outcome State Fault Refusal :=
  takeFrame (issueFrame f 0x25#8 args) s

/-- KA_ARM (R167): the first step. -/
def execKaArm (f : FrameHead) (args : List Byte) (s : State) : Host.Outcome State Fault Refusal :=
  takeFrame (issueFrame f 0x28#8 args) s

/-- KA_DISARM (R168): the first step. -/
def execKaDisarm (f : FrameHead) (args : List Byte) (s : State) : Host.Outcome State Fault Refusal :=
  takeFrame (issueFrame f 0x29#8 args) s

/-- KA_REFRESH (R169). -/
def execKaRefresh (f : FrameHead) (args : List Byte) (s : State) : Host.Outcome State Fault Refusal :=
  takeFrame (issueFrame f 0x2A#8 args) s

/-- STORE_COMMIT (R179): the first step. -/
def execStoreCommit (f : FrameHead) (args : List Byte) (s : State) : Host.Outcome State Fault Refusal :=
  takeFrame (issueFrame f 0x30#8 args) s

/-- STORE_READ (R182). -/
def execStoreRead (f : FrameHead) (args : List Byte) (s : State) : Host.Outcome State Fault Refusal :=
  takeFrame (issueFrame f 0x31#8 args) s

/-- STORE_DEFAULTS (R182): the first step. -/
def execStoreDefaults (f : FrameHead) (args : List Byte) (s : State) : Host.Outcome State Fault Refusal :=
  takeFrame (issueFrame f 0x32#8 args) s

/-- SOFT_RESET (R188): the first step. -/
def execSoftReset (f : FrameHead) (args : List Byte) (s : State) : Host.Outcome State Fault Refusal :=
  takeFrame (issueFrame f 0x38#8 args) s

/-- PORT_RESET (R189). -/
def execPortReset (f : FrameHead) (args : List Byte) (s : State) : Host.Outcome State Fault Refusal :=
  takeFrame (issueFrame f 0x39#8 args) s


end Sys2Proof.Machine
end

