-- ==== Sys2Proof/Machine/LineEvents.lean ====
section
/-! DEFINITION. The meanings of the events of the tether lines and of the line engines' timers (chapters 5 and 6). -/

namespace Sys2Proof.Machine

/-- END_OF_TRANSMISSION (R89). -/
def execEndOfTransmission (p : Fin 8) (s : State) : Host.Outcome State Fault Refusal :=
  takeEvent (fun s => s.transmissionEnd p) s

/-- HUSH_SENT (R97). -/
def execHushSent (p : Fin 8) (s : State) : Host.Outcome State Fault Refusal :=
  takeEvent (fun s => s.hushEnd p) s

/-- TURNAROUND_EXPIRY (R88). -/
def execTurnaroundExpiry (p : Fin 8) (s : State) : Host.Outcome State Fault Refusal :=
  takeEvent (fun s => s.turnaroundEnd p) s

/-- ANSWER_WINDOW_EXPIRY (R89). -/
def execAnswerWindowExpiry (p : Fin 8) (s : State) : Host.Outcome State Fault Refusal :=
  takeEvent (fun s => s.windowEnd p) s

/-- PARCEL_RECEPTION (R95). -/
def execParcelReception (p : Fin 8) (chars : List LineChar) (s : State) : Host.Outcome State Fault Refusal :=
  takeEvent (fun s => s.reception p chars) s

/-- TICK (R108). -/
def execTick (p : Fin 8) (s : State) : Host.Outcome State Fault Refusal :=
  takeEvent (fun s => s.tickEnd p) s

/-- WAKE_SPACING_EXPIRY (R104). -/
def execWakeSpacingExpiry (p : Fin 8) (s : State) : Host.Outcome State Fault Refusal :=
  takeEvent (fun s => s.spacingEnd p) s

/-- REBIND_DELAY_EXPIRY (R115). -/
def execRebindDelayExpiry (p : Fin 8) (s : State) : Host.Outcome State Fault Refusal :=
  takeEvent (fun s => s.rebindEnd p) s


end Sys2Proof.Machine
end

