-- ==== Sys2Proof/Machine/Dispatch.lean ====
section
/-! DEFINITION. The meaning of every command, one arm for each constructor of Instr. -/

namespace Sys2Proof.Machine

def exec (i : Instr) (s : State) : Host.Outcome State Fault Refusal :=
  match i with
  | .write f entries => Sys2Proof.Machine.execWrite f entries s
  | .signalModeChange f p value => Sys2Proof.Machine.execSignalModeChange f p value s
  | .feedEnableChange f p value => Sys2Proof.Machine.execFeedEnableChange f p value s
  | .driveLevelChange f p value => Sys2Proof.Machine.execDriveLevelChange f p value s
  | .autoBindSet f p value => Sys2Proof.Machine.execAutoBindSet f p value s
  | .attnPriorityWrite f r value => Sys2Proof.Machine.execAttnPriorityWrite f r value s
  | .attnFloorWrite f value => Sys2Proof.Machine.execAttnFloorWrite f value s
  | .startingFrame mosi => Sys2Proof.Machine.execStartingFrame mosi s
  | .runt mosi => Sys2Proof.Machine.execRunt mosi s
  | .requestPhaseTimeout mosi => Sys2Proof.Machine.execRequestPhaseTimeout mosi s
  | .replyCut => Sys2Proof.Machine.execReplyCut s
  | .fetchPortStream f selector => Sys2Proof.Machine.execFetchPortStream f selector s
  | .fetchPortCommit => Sys2Proof.Machine.execFetchPortCommit s
  | .fetchJournal f => Sys2Proof.Machine.execFetchJournal f s
  | .fetchJournalCommit => Sys2Proof.Machine.execFetchJournalCommit s
  | .claim f => Sys2Proof.Machine.execClaim f s
  | .claimCommit => Sys2Proof.Machine.execClaimCommit s
  | .post f selector hostTag op index subindex data => Sys2Proof.Machine.execPost f selector hostTag op index subindex data s
  | .confirm f args => Sys2Proof.Machine.execConfirm f args s
  | .confirmLapsed => Sys2Proof.Machine.execConfirmLapsed s
  | .clearLinkFault f args => Sys2Proof.Machine.execClearLinkFault f args s
  | .noop f args => Sys2Proof.Machine.execNoop f args s
  | .goOperate f args => Sys2Proof.Machine.execGoOperate f args s
  | .goStandby f args => Sys2Proof.Machine.execGoStandby f args s
  | .enterSafe f args => Sys2Proof.Machine.execEnterSafe f args s
  | .resume f args => Sys2Proof.Machine.execResume f args s
  | .clearConditions f args => Sys2Proof.Machine.execClearConditions f args s
  | .releaseOutput f args => Sys2Proof.Machine.execReleaseOutput f args s
  | .overcurrentBegin p o => Sys2Proof.Machine.execOvercurrentBegin p o s
  | .overcurrentEnd p o => Sys2Proof.Machine.execOvercurrentEnd p o s
  | .trip p o => Sys2Proof.Machine.execTrip p o s
  | .restart p o => Sys2Proof.Machine.execRestart p o s
  | .settle p o => Sys2Proof.Machine.execSettle p o s
  | .rawLevelChange p level => Sys2Proof.Machine.execRawLevelChange p level s
  | .debounceExpiry p => Sys2Proof.Machine.execDebounceExpiry p s
  | .fieldFallBelowLow => Sys2Proof.Machine.execFieldFallBelowLow s
  | .fieldFallToHigh => Sys2Proof.Machine.execFieldFallToHigh s
  | .fieldRiseAboveHigh => Sys2Proof.Machine.execFieldRiseAboveHigh s
  | .restoreSettleExpiry => Sys2Proof.Machine.execRestoreSettleExpiry s
  | .thermalRise => Sys2Proof.Machine.execThermalRise s
  | .thermalFall => Sys2Proof.Machine.execThermalFall s
  | .endOfTransmission p => Sys2Proof.Machine.execEndOfTransmission p s
  | .hushSent p => Sys2Proof.Machine.execHushSent p s
  | .turnaroundExpiry p => Sys2Proof.Machine.execTurnaroundExpiry p s
  | .answerWindowExpiry p => Sys2Proof.Machine.execAnswerWindowExpiry p s
  | .parcelReception p chars => Sys2Proof.Machine.execParcelReception p chars s
  | .tick p => Sys2Proof.Machine.execTick p s
  | .wakeSpacingExpiry p => Sys2Proof.Machine.execWakeSpacingExpiry p s
  | .rebindDelayExpiry p => Sys2Proof.Machine.execRebindDelayExpiry p s
  | .bind f args => Sys2Proof.Machine.execBind f args s
  | .unbind f args => Sys2Proof.Machine.execUnbind f args s
  | .pause f args => Sys2Proof.Machine.execPause f args s
  | .resumePort f args => Sys2Proof.Machine.execResumePort f args s
  | .clearCounters f args => Sys2Proof.Machine.execClearCounters f args s
  | .flush f args => Sys2Proof.Machine.execFlush f args s
  | .journalClear f args => Sys2Proof.Machine.execJournalClear f args s
  | .journalMark f args => Sys2Proof.Machine.execJournalMark f args s
  | .releaseAttention f args => Sys2Proof.Machine.execReleaseAttention f args s
  | .dismiss f args => Sys2Proof.Machine.execDismiss f args s
  | .kaArm f args => Sys2Proof.Machine.execKaArm f args s
  | .kaDisarm f args => Sys2Proof.Machine.execKaDisarm f args s
  | .kaRefresh f args => Sys2Proof.Machine.execKaRefresh f args s
  | .kaWarning => Sys2Proof.Machine.execKaWarning s
  | .kaExpired => Sys2Proof.Machine.execKaExpired s
  | .storeLoadComplete => Sys2Proof.Machine.execStoreLoadComplete s
  | .storeCommit f args => Sys2Proof.Machine.execStoreCommit f args s
  | .eraseComplete ok => Sys2Proof.Machine.execEraseComplete ok s
  | .programComplete ok => Sys2Proof.Machine.execProgramComplete ok s
  | .verifyComplete ok => Sys2Proof.Machine.execVerifyComplete ok s
  | .storeRead f args => Sys2Proof.Machine.execStoreRead f args s
  | .storeDefaults f args => Sys2Proof.Machine.execStoreDefaults f args s
  | .softReset f args => Sys2Proof.Machine.execSoftReset f args s
  | .portReset f args => Sys2Proof.Machine.execPortReset f args s
  | .resetInterval line => Sys2Proof.Machine.execResetInterval line s
  | .deviceResetStep sample => Sys2Proof.Machine.execDeviceResetStep sample s
  | .read f start count => Sys2Proof.Machine.execRead f start count s
  | .reject mosi => Sys2Proof.Machine.execReject mosi s

end Sys2Proof.Machine
end

