-- ==== Sys2Proof/Machine/Idle.lean ====
section
/-! DEFINITION. What happens on an empty queue: one millisecond passes (notes/assumptions/1.md). -/

namespace Sys2Proof.Machine

/-- One millisecond of the Time Base (R150) and of the keepalive timer (R165); during a reset interval the Time Base is held
(R184). -/
def State.idle (s : State) : State :=
  if s.resetLine.isSome then s else { s with timeBase := s.timeBase + 1#32, ka := s.ka.millisecond }

/-- The state with the queue replaced. -/
def State.withPending (s : State) (queue : List Instr) : State := { s with pending := queue }

/-- The state with a command put at the front of its queue, if there is one. -/
def State.pushFront (s : State) : Option Instr → State
  | some i => s.withPending (i :: s.pending)
  | none => s

end Sys2Proof.Machine
end

