-- ==== Sys2Proof/Safety.lean ====
section
/-! DEFINITION. The terms in which claims about the NL-848 are stated: when a command is taken, a frame sent without error, what
every accepted or rejected frame leaves in the link, and the invariants of the controller. -/

namespace Sys2Proof.Machine

/-! ### Frames -/

/-- No reset interval is in progress: events are taken (R184). -/
abbrev State.Awake (s : State) : Prop := s.resetLine = none

/-- Frames are judged: no reset interval, and not STARTUP (R10, R11). -/
abbrev State.Listens (s : State) : Prop := s.resetLine = none ∧ s.mode ≠ .startup

/-- The frame is meant for this unit and its CHECK byte is right (steps 2 and 4 of R10, R3). -/
abbrev Fits (f : FrameHead) (s : State) (kind : BitVec 3) (payload : List Byte) : Prop :=
  f.unit = s.link.unit ∧ f.check = frameCrc ([headerByte kind f.unit 0#2, f.tag, lengthByte payload] ++ payload)

/-- Software sends a frame of a kind and payload without error to a controller that judges frames. -/
abbrev Sent (s : State) (f : FrameHead) (kind : BitVec 3) (payload : List Byte) : Prop :=
  s.Listens ∧ Fits f s kind payload

/-- Software issues a command without error. -/
abbrev Issued (s : State) (f : FrameHead) (code : Byte) (args : List Byte) : Prop := Sent s f kindIssue (code :: args)

/-- The state in which an accepted frame other than CONFIRM has its own effect: the frame before it is over, and a pending
confirmation has lapsed (item 1 of R13, R23). -/
def State.begun (s : State) : State := s.dropFrame.lapse 1#8

/-- The state in which a CONFIRM that executes has its own effect: the frame before it is over, and the pending confirmation is
used up (R22). -/
def State.begunConfirm (s : State) : State := s.dropFrame.dropConfirm

/-- The link after an accepted frame (item 3 of R13, R17): its tag and kind recorded, its reply on the way. -/
def State.answered (s : State) (f : FrameHead) (kind : BitVec 3) (status : Byte) (payload : List Byte) (delivery : Delivery) :
    State :=
  s.modLink (fun l =>
    { l with
      lastTag := f.tag
      lastKind := kind
      replyCut := false
      phase := .replying ⟨status, f.tag, payload⟩ true delivery })

/-- An accepted command (R7): its reply is ACCEPTED with a payload. -/
def State.acknowledged (s : State) (f : FrameHead) (payload : List Byte) : State :=
  s.answered f kindIssue stAccepted payload .nothing

/-- A state in which an accepted frame's reply is on the way and LINK_STATUS records it (R12, R17). -/
abbrev Replying (t : State) (f : FrameHead) (kind : BitVec 3) (status : Byte) (payload : List Byte) (d : Delivery) : Prop :=
  t.link.phase = .replying ⟨status, f.tag, payload⟩ true d ∧ t.link.lastTag = f.tag ∧ t.link.lastKind = kind ∧
    t.link.replyCut = false

/-- A rejected frame (R12, R19, R20): counted, captured, journalled and marked, with RLEN 0 in its reply. -/
def State.rejected (s : State) (kind : BitVec 3) (tag code : Byte) (address : Word) : State :=
  (s.dropFrame.reject ⟨code, address⟩ kind tag).setPhase (.replying ⟨code, tag, []⟩ false .nothing)

/-! ### The journal -/

/-- The journal after a step in which some events are met in turn (R139 to R142), its call for attention answered at the close
(R143). -/
def State.met (s : State) (events : List Event) : Journal :=
  { events.foldl (fun j e => j.put s.cfg.journalConfig s.timeBase e) s.journal with call := none }

/-- An event of the line engines or of the request pool, as the consequences of another block's step are (R37). -/
abbrev Event.OfPort (e : Event) : Prop := e.cls = .line ∨ e.cls = .request

/-- The MODE_CHANGE event (R35): the previous MODE code, the new one and the cause. -/
def modeChanged (old new cause : Byte) : Event := ⟨.device, false, 9#8, 0x04#8, [old, new, cause]⟩

/-! ### Outputs -/

/-- An output that compares its enable with its state (R51, R52): out of DISABLED when enabled, to INHIBITED, or to ENGAGED or
LIMITING by its current; to DISABLED when not enabled, unless it is LATCHED. -/
def Output.judged (x : Output) (enabled inhibit overloaded : Bool) (cutoff : Nat) : Output :=
  if enabled then
    if x.state = .disabled then
      if inhibit then { x with state := .inhibited, timer := none }
      else if overloaded then { x with state := .limiting, timer := some cutoff }
      else { x with state := .engaged, timer := if x.count = 0#8 then none else some 2000000 }
    else x
  else if x.state = .disabled ∨ x.state = .latched then x
  else { x with state := .disabled, count := 0#8, timer := none }

/-! ### Line engines -/

/-- The line state in which a WAKE exchange starts (R92, R97): at once, or when the turnaround has elapsed (R88). -/
def LineState.wakeStarts (l : LineState) (rate : BitVec 2) : LineState :=
  { l with
    exchange := some ⟨.wake, 0#2, [0x10#8, 0x00#8, 0xB4#8], 1, 1, if l.turnaround then .waiting else .sending⟩
    rate := if l.turnaround then l.rate else some rate }

/-- The line state in which a POLL or ASK exchange starts (R88, R94, R96). -/
def LineState.exchangeStarts (l : LineState) (kind : ExchKind) (parcel : List Byte) (retryLimit : Nat) : LineState :=
  { l with
    seq := l.seq + 1#2
    exchange := some ⟨kind, l.seq + 1#2, parcel, 1, 1 + retryLimit, if l.turnaround then .waiting else .sending⟩ }

/-- An engine that has entered WAKING (R103): the line state reset and the first WAKE started, or waiting for the end of a
trailing HUSH, which alone outlives the reset (R100). -/
def Engine.woken (e : Engine) (rate : BitVec 2) : Engine :=
  { e with
    state := .waking
    reason := .none
    line :=
      match e.line.hush with
      | none => (⟨none, 0#2, none, false, none⟩ : LineState).wakeStarts rate
      | some r => ⟨none, 0#2, none, false, some r⟩
    timer := match e.line.hush with | none => .spacing | some _ => .none
    wakeCount := 0
    due := false }

/-- The mode side of binding (R103): OPERATE, or SAFE_HOLD with SAFE_POLL, and the port in TETHER mode. -/
abbrev State.bindingMode (s : State) (p : Fin 8) : Prop :=
  (s.mode = .operate ∨ (s.mode = .safeHold ∧ (s.conf p).safePoll = true)) ∧ (s.conf p).tether = true

/-- Binding is permitted on a port (R103). -/
abbrev State.mayBind (s : State) (p : Fin 8) : Prop :=
  s.bindingMode p ∧ (s.port p).feed.state = .engaged ∧ (s.port p).signal.state = .engaged

/-- Binding is not permitted only because an output is LIMITING (R103). -/
abbrev State.onlyLimited (s : State) (p : Fin 8) : Prop :=
  s.bindingMode p ∧ (s.port p).feed.state.conducts = true ∧ (s.port p).signal.state.conducts = true ∧ ¬s.mayBind p

/-- A port listens for the reply of an exchange, and the characters are a well-formed parcel (R89, R91). -/
abbrev Hears (s : State) (p : Fin 8) (chars : List LineChar) (x : Exchange) (q : Parcel) : Prop :=
  s.Awake ∧ (s.engine p).line.exchange = some x ∧ x.phase = .listening ∧ readParcel chars = some q

/-- A command on which the attempt in progress of a port fails (R96): silence until the window expires, or the reception of a
parcel that is invalid or mismatched, from which the turnaround then runs (R88). -/
def AttemptFails (s : State) (p : Fin 8) (x : Exchange) (c : Instr) (turnaround : Bool) : Prop :=
  (s.engine p).line.exchange = some x ∧ x.phase = .listening ∧
    ((c = .answerWindowExpiry p ∧ turnaround = false) ∨
      ∃ chars, c = .parcelReception p chars ∧ chars ≠ [] ∧ turnaround = true ∧
        ∀ q, readParcel chars = some q → acceptReply x (s.engine p).inputLen.toNat q = none)

/-- Slots completed as ABANDONED (R132). -/
def abandonedSlots (l : List Request) : List DoneSlot := l.map (fun r => ⟨r, .abandoned⟩)

/-- The step changed nothing but one port, the journal and the attention controller. -/
abbrev OnlyPort (s t : State) (p : Fin 8) : Prop :=
  (∀ q, q ≠ p → t.port q = s.port q) ∧
    { t with ports := s.ports, journal := s.journal, attn := s.attn, atn := s.atn } = s

/-! ### Invariants -/

/-- The settings array keeps its canonical form, and a bank that a commit is programming or verifying holds no undefined byte
(R180). -/
def State.ArrayInForm (s : State) : Prop :=
  Memory.wf s.store.cells = true ∧
    ∀ job, s.store.commit = .programming job ∨ s.store.commit = .verifying job → s.store.left (.bank job.target) = none

/-- The journal (R138): at most 32 entries, the SEQ values consecutive up to the one below JOURNAL_NEXT_SEQ, and at most four
detail bytes in each (section 8.1). -/
def State.JournalInOrder (s : State) : Prop :=
  let l := s.journal.entries
  l.length ≤ 32 ∧
    (∀ (i : Nat) (e : Entry), l[i]? = some e → e.seq = s.journal.nextSeq - BitVec.ofNat 16 (l.length - i)) ∧
    ∀ e ∈ l, e.detail.length ≤ 4

/-- A source's priority is above the ceiling (R155). -/
def State.above (s : State) (priority : Nat) : Prop :=
  field s.cfg.attnFloor 0 3 < priority ∧ ∀ e, s.attn.stack.head? = some e → e.priority.toNat < priority

/-- The attention controller: priorities on the in-service stack strictly increasing from the bottom, each 1 to 7 (R159); a
waiting claim above the top entry (R158); and ATN asserted exactly while a source is deliverable, outside a reset interval
(R156, R184). -/
def State.AttentionInOrder (s : State) : Prop :=
  s.attn.stack.Pairwise (fun upper lower => lower.priority.toNat < upper.priority.toNat) ∧
    (∀ e ∈ s.attn.stack, 1 ≤ e.priority.toNat) ∧
    (∀ c, s.attn.claim = some c →
      1 ≤ c.priority.toNat ∧ ∀ e, s.attn.stack.head? = some e → e.priority.toNat < c.priority.toNat) ∧
    (s.atn = true ↔
      s.resetLine = none ∧
        ∃ src ∈ allSources, (s.attn.latch src).nonempty = true ∧ s.above (s.cfg.priority src).toNat)

/-- An output's timer and count fit its state, its device mode and the inhibit line (R48, R51, R54, R57, R60, R61). -/
def Output.Fits (x : Output) (inhibit off : Bool) : Prop :=
  (off = true → x.state = .disabled) ∧
    (inhibit = true → x.state = .disabled ∨ x.state = .latched ∨ x.state = .inhibited) ∧
    (x.state = .inhibited → inhibit = true) ∧
    (x.state = .disabled → x.count = 0#8) ∧
    (x.state = .tripped ∨ x.state = .latched → x.count ≠ 0#8) ∧
    (x.timer ≠ none ↔ x.state = .limiting ∨ x.state = .tripped ∨ (x.state = .engaged ∧ x.count ≠ 0#8))

/-- The device mode, its SAFE_CAUSE and the keepalive fit together (R25, R165, R170), and every output fits the mode and the
inhibit line. -/
def State.ModesInOrder (s : State) : Prop :=
  (s.safeCause = .none ↔ s.mode ≠ .safeHold) ∧
    (s.mode = .startup ∨ s.mode = .standby → s.ka.state = .disarmed) ∧
    (s.mode = .operate → s.ka.state = .disarmed ∨ s.ka.state = .armed ∨ s.ka.state = .warned) ∧
    (s.mode = .safeHold → s.safeCause = .host → s.ka.state = .disarmed ∨ s.ka.state = .suspended) ∧
    (s.mode = .safeHold → s.safeCause = .keepalive → s.ka.state = .expired) ∧
    ∀ p o, ((s.port p).out o).Fits s.inhibit (s.mode == .startup || s.mode == .standby)

/-- One port's engine, line and slots fit together (R101, R107, R113, R120, R125). -/
def Port.InOrder (pt : Port) : Prop :=
  let e := pt.engine
  (∀ x, e.line.exchange = some x →
      (x.kind = .wake → e.state = .waking) ∧ (x.kind ≠ .wake → e.state = .bound)) ∧
    (e.pauseRequested = true → e.state = .bound ∧ e.line.exchange ≠ none) ∧
    (∀ ms, e.timer = .tick ms → e.state = .bound) ∧ (e.timer = .spacing → e.state = .waking) ∧
    (e.timer = .rebind → e.state = .lost) ∧
    (pt.inFlight ≠ none ↔ ∃ x, e.line.exchange = some x ∧ x.kind = .ask) ∧
    (∀ r ∈ pt.queue, r.origin = .host) ∧
    (pt.held.filter (fun r => r.origin == .notice)).length ≤ 1 ∧ pt.heldCount ≤ 8

/-- The engines and the pool: in STARTUP and STANDBY every engine is DETACHED (R26, R27); every port is in order; no slot is
held twice, so that held and FREE slots add up to 32 (R125); and every quota is 1 to 8 (R127). -/
def State.EnginesInOrder (s : State) : Prop :=
  (s.mode = .startup ∨ s.mode = .standby → ∀ p, (s.engine p).state = .detached) ∧
    (∀ p, (s.port p).InOrder) ∧ s.heldSlots.Nodup ∧ s.freeSlots.length + s.heldSlots.length = 32 ∧
    ∀ p, 1 ≤ (s.conf p).quota.toNat ∧ (s.conf p).quota.toNat ≤ 8

/-! ### Bytes -/

/-- The bytes that software clocks for a command that is one host frame; none for the other commands. -/
def frameOf : Instr → Option (List Byte)
  | .write f entries => some (frameBytes f kindWrite (entryBytes entries))
  | .signalModeChange f p value => some (frameBytes f kindWrite (entryBytes [⟨portAddress p 0, value⟩]))
  | .feedEnableChange f p value => some (frameBytes f kindWrite (entryBytes [⟨portAddress p 0, value⟩]))
  | .driveLevelChange f p value => some (frameBytes f kindWrite (entryBytes [⟨portAddress p 0, value⟩]))
  | .autoBindSet f p value => some (frameBytes f kindWrite (entryBytes [⟨portAddress p 0, value⟩]))
  | .attnPriorityWrite f r value => some (frameBytes f kindWrite (entryBytes [⟨BitVec.ofNat 16 (0x028 + r.val), value⟩]))
  | .attnFloorWrite f value => some (frameBytes f kindWrite (entryBytes [⟨0x0022#16, value⟩]))
  | .startingFrame _ => none
  | .runt _ => none
  | .requestPhaseTimeout _ => none
  | .replyCut => none
  | .fetchPortStream f selector => some (frameBytes f kindFetch [selector])
  | .fetchPortCommit => none
  | .fetchJournal f => some (frameBytes f kindFetch [selectorOf 8#4])
  | .fetchJournalCommit => none
  | .claim f => some (frameBytes f kindFetch [selectorOf 9#4])
  | .claimCommit => none
  | .post f selector hostTag op index subindex data =>
    some (frameBytes f kindPost ([selector, hostTag, op] ++ wordBytes index ++ [subindex] ++ data))
  | .confirm f args => some (frameBytes f kindIssue (0x01#8 :: args))
  | .confirmLapsed => none
  | .clearLinkFault f args => some (frameBytes f kindIssue (0x02#8 :: args))
  | .noop f args => some (frameBytes f kindIssue (0x03#8 :: args))
  | .goOperate f args => some (frameBytes f kindIssue (0x08#8 :: args))
  | .goStandby f args => some (frameBytes f kindIssue (0x09#8 :: args))
  | .enterSafe f args => some (frameBytes f kindIssue (0x0A#8 :: args))
  | .resume f args => some (frameBytes f kindIssue (0x0B#8 :: args))
  | .clearConditions f args => some (frameBytes f kindIssue (0x0C#8 :: args))
  | .releaseOutput f args => some (frameBytes f kindIssue (0x10#8 :: args))
  | .overcurrentBegin _ _ => none
  | .overcurrentEnd _ _ => none
  | .trip _ _ => none
  | .restart _ _ => none
  | .settle _ _ => none
  | .rawLevelChange _ _ => none
  | .debounceExpiry _ => none
  | .fieldFallBelowLow => none
  | .fieldFallToHigh => none
  | .fieldRiseAboveHigh => none
  | .restoreSettleExpiry => none
  | .thermalRise => none
  | .thermalFall => none
  | .endOfTransmission _ => none
  | .hushSent _ => none
  | .turnaroundExpiry _ => none
  | .answerWindowExpiry _ => none
  | .parcelReception _ _ => none
  | .tick _ => none
  | .wakeSpacingExpiry _ => none
  | .rebindDelayExpiry _ => none
  | .bind f args => some (frameBytes f kindIssue (0x18#8 :: args))
  | .unbind f args => some (frameBytes f kindIssue (0x19#8 :: args))
  | .pause f args => some (frameBytes f kindIssue (0x1A#8 :: args))
  | .resumePort f args => some (frameBytes f kindIssue (0x1B#8 :: args))
  | .clearCounters f args => some (frameBytes f kindIssue (0x1C#8 :: args))
  | .flush f args => some (frameBytes f kindIssue (0x1D#8 :: args))
  | .journalClear f args => some (frameBytes f kindIssue (0x20#8 :: args))
  | .journalMark f args => some (frameBytes f kindIssue (0x21#8 :: args))
  | .releaseAttention f args => some (frameBytes f kindIssue (0x24#8 :: args))
  | .dismiss f args => some (frameBytes f kindIssue (0x25#8 :: args))
  | .kaArm f args => some (frameBytes f kindIssue (0x28#8 :: args))
  | .kaDisarm f args => some (frameBytes f kindIssue (0x29#8 :: args))
  | .kaRefresh f args => some (frameBytes f kindIssue (0x2A#8 :: args))
  | .kaWarning => none
  | .kaExpired => none
  | .storeLoadComplete => none
  | .storeCommit f args => some (frameBytes f kindIssue (0x30#8 :: args))
  | .eraseComplete _ => none
  | .programComplete _ => none
  | .verifyComplete _ => none
  | .storeRead f args => some (frameBytes f kindIssue (0x31#8 :: args))
  | .storeDefaults f args => some (frameBytes f kindIssue (0x32#8 :: args))
  | .softReset f args => some (frameBytes f kindIssue (0x38#8 :: args))
  | .portReset f args => some (frameBytes f kindIssue (0x39#8 :: args))
  | .resetInterval _ => none
  | .deviceResetStep _ => none
  | .read f start count => some (frameBytes f kindRead (wordBytes start ++ [count]))
  | .reject _ => none

end Sys2Proof.Machine
end

