-- ==== Sys2Proof/Certificates/Slice0/Obligations.lean ====
section
/-! DEFINITION. The statements for the provers. Each says in its docstring which rule of spec/ it formalises. -/

open Sys2Proof Sys2Proof.Machine

/-- A step runs the command at the front of the queue; on an empty queue one millisecond passes (model choice, log 1) (R13,
R150, R165, R184). -/
def Obligations.StepRunsFrontCommand : Prop :=
  (∀ (c : Instr) (rest : List Instr) (s : State),
    step { s with pending := c :: rest } = exec c { s with pending := rest }) ∧
  (∀ s : State, s.pending = [] →
    (s.resetLine ≠ none → step s = .next s) ∧
    (s.resetLine = none → (s.ka.state = .armed ∨ s.ka.state = .warned) →
      step s = .next { s with timeBase := s.timeBase + 1#32, ka := { s.ka with elapsedMs := s.ka.elapsedMs + 1 } }) ∧
    (s.resetLine = none → s.ka.state ≠ .armed → s.ka.state ≠ .warned →
      step s = .next { s with timeBase := s.timeBase + 1#32 }))

/-- A typed frame does exactly what its clocked bytes do (model choice, log 26); MISO shows the quick status, the reply, then
0x00 (log 15) (R1, R2, R10, R16, R24, R184). -/
def Obligations.HostFramesAreTheirBytes : Prop :=
  (∀ (c : Instr) (bytes : List Byte) (s : State), frameOf c = some bytes → exec c s = exec (.reject bytes) s) ∧
  (∀ s : State,
    let quick := s.misoRequest
    (s.resetLine ≠ none → quick = 0x00#8 ∧ ∀ n, s.misoNext n = 0x00#8) ∧
    (s.resetLine = none →
      quick.extractLsb' 6 2 = (match s.mode with | .startup => 0#2 | .standby => 1#2 | .operate => 2#2 | .safeHold => 3#2) ∧
      (quick.getLsbD 5 = true ↔ s.mode = .startup) ∧ (quick.getLsbD 4 = true ↔ s.atn = true) ∧
      (quick.getLsbD 3 = true ↔ s.journal.entries ≠ []) ∧ (quick.getLsbD 2 = true ↔ ∃ p, (s.port p).done ≠ []) ∧
      (quick.getLsbD 1 = true ↔ s.link.confirm ≠ none) ∧
      (quick.getLsbD 0 = true ↔ s.sup.field ≠ .good ∨ s.sup.hot = true) ∧
      (s.link.phase = .idle → ∀ n, s.misoNext n = quick) ∧ (s.link.phase = .ignoring → ∀ n, s.misoNext n = 0x00#8) ∧
      ∀ r recorded d, s.link.phase = .replying r recorded d →
        let body := [r.status, r.tag, BitVec.ofNat 8 r.payload.length] ++ r.payload
        (∀ n b, (body ++ [frameCrc body])[n]? = some b → s.misoNext n = b) ∧
        ∀ n, 4 + r.payload.length ≤ n → s.misoNext n = 0x00#8))

/-- NOOP and CLEAR_LINK_FAULT are accepted in every mode after STARTUP with their own effect only (R18, R13, R17). -/
def Obligations.NoopAndClearLinkFault : Prop :=
  ∀ (s : State) (f : FrameHead),
    (Issued s f 0x03#8 [] → exec (.noop f []) s = .next (s.begun.acknowledged f []).finish) ∧
    (Issued s f 0x02#8 [] → exec (.clearLinkFault f []) s =
      .next ({ s.begun with link := { s.begun.link with capture := ⟨false, false, 0#3, 0#8, 0#8, 0#16, 0#16⟩ } }.acknowledged f
        []).finish) ∧
    (∀ args : List Byte, args ≠ [] → args.length ≤ 7 →
      (Issued s f 0x03#8 args → exec (.noop f args) s = .next (s.rejected kindIssue f.tag 0x89#8 0#16).finish) ∧
      (Issued s f 0x02#8 args → exec (.clearLinkFault f args) s = .next (s.rejected kindIssue f.tag 0x89#8 0#16).finish))

/-- The first acceptance checks in order: KIND, UNIT, LENGTH and CHECK, then selectors and command codes, each refused by
name (R10, R12, R3, R4, R7, R8). -/
def Obligations.AcceptanceChecksInOrder : Prop :=
  (∀ (s : State) (mosi : List Byte) (f : Frame), s.Listens → completedRequest mosi = some f →
    let kindBad := f.kind.toNat = 0 ∨ f.kind.toNat = 6 ∨ f.kind.toNat = 7 ∨ f.low ≠ 0#2
    let lengthBad := lengthLegal f.kind f.length.toNat = false
    (kindBad → exec (.reject mosi) s = .next (s.rejected f.kind f.tag 0x81#8 0#16).finish) ∧
    (¬kindBad → f.unit ≠ s.link.unit → exec (.reject mosi) s = .next (s.rejected f.kind f.tag 0x82#8 0#16).finish) ∧
    (¬kindBad → f.unit = s.link.unit → lengthBad →
      exec (.reject mosi) s = .next (s.rejected f.kind f.tag 0x83#8 0#16).finish) ∧
    (¬kindBad → f.unit = s.link.unit → ¬lengthBad →
      f.check ≠ frameCrc (headerByte f.kind f.unit f.low :: f.tag :: f.length :: f.payload) →
      exec (.reject mosi) s = .next (s.rejected f.kind f.tag 0x84#8 0#16).finish)) ∧
  (∀ (s : State) (f : FrameHead) (selector : Byte),
    let low := selector.extractLsb' 0 4
    let malformed := selector.extractLsb' 4 4 ≠ ~~~low
    (Sent s f kindFetch [selector] → (malformed ∨ 10 ≤ low.toNat) →
      exec (.fetchPortStream f selector) s = .next (s.rejected kindFetch f.tag 0x85#8 0#16).finish) ∧
    (∀ (hostTag op : Byte) (index : Word) (subindex : Byte) (data : List Byte), data.length ≤ 24 →
      Sent s f kindPost ([selector, hostTag, op] ++ wordBytes index ++ [subindex] ++ data) → (malformed ∨ 8 ≤ low.toNat) →
      exec (.post f selector hostTag op index subindex data) s = .next (s.rejected kindPost f.tag 0x85#8 0#16).finish) ∧
    (Sent s f kindFetch [selector] → ¬malformed → low.toNat ≤ 9 →
      ∃ t status payload delivery, exec (.fetchPortStream f selector) s = .next t ∧
        t.link.phase = .replying ⟨status, f.tag, payload⟩ true delivery ∧ (status = 0x00#8 ∨ status = 0x02#8)) ∧
    (∀ (code : Byte) (args : List Byte), args.length ≤ 7 → Issued s f code args →
      code ∉ [0x01#8, 0x02#8, 0x03#8, 0x08#8, 0x09#8, 0x0A#8, 0x0B#8, 0x0C#8, 0x10#8, 0x18#8, 0x19#8, 0x1A#8, 0x1B#8, 0x1C#8,
        0x1D#8, 0x20#8, 0x21#8, 0x24#8, 0x25#8, 0x28#8, 0x29#8, 0x2A#8, 0x30#8, 0x31#8, 0x32#8, 0x38#8, 0x39#8] →
      exec (.reject (frameBytes f kindIssue (code :: args))) s = .next (s.rejected kindIssue f.tag 0x88#8 0#16).finish))

/-- Whatever its bytes, a rejected frame leaves every block but the link, the journal and the attention controller as it was
(R10, R12, R17, R20). -/
def Obligations.RejectsTouchOnlyTheLink : Prop :=
  ∀ (s t : State) (mosi : List Byte) (f : Frame) (r : Reply) (recorded : Bool) (d : Delivery),
    s.Awake → completedRequest mosi = some f → exec (.reject mosi) s = .next t →
    t.link.phase = .replying r recorded d → 0x81 ≤ r.status.toNat →
    { t with link := s.link, journal := s.journal, attn := s.attn, atn := s.atn } = s ∧
    t.link.rejects = bump16 s.link.rejects ∧ t.link.runts = s.link.runts ∧ t.link.unit = s.link.unit ∧
    t.link.lastTag = s.link.lastTag ∧ t.link.lastKind = s.link.lastKind ∧ t.link.replyCut = s.link.replyCut ∧
    r.payload = [] ∧ r.tag = f.tag ∧ d = .nothing ∧
    (t.link.confirm = s.link.confirm ∨ (f.kind = kindIssue ∧ t.link.confirm = none))

/-- A runt, by CS release or by the 20 ms timeout, is counted, captured with code 0x90, journalled and marked, and no more
(R15, R16, R19, R20). -/
def Obligations.RuntsAreCountedAndCaptured : Prop :=
  ∀ (s : State) (mosi : List Byte), s.Listens → completedRequest mosi = none →
    let kind := match mosi with | header :: _ => header.extractLsb' 5 3 | [] => 0#3
    let tag := match mosi with | _ :: tag :: _ => tag | _ => 0#8
    let after (phase : FramePhase) : State :=
      { s with
        link :=
          { s.link with
            phase := phase
            rejects := bump16 s.link.rejects
            runts := bump16 s.link.runts
            capture :=
              if s.link.capture.held then { s.link.capture with overflow := true }
              else ⟨true, false, kind, 0x90#8, tag, 0#16, s.timeBase.extractLsb' 0 16⟩ }
        journal := s.journal.put s.cfg.journalConfig s.timeBase (evLinkReject 0x90#8 kind tag)
        attn := ({ s.attn with claim := none }).mark .link (fun l => l.addCode 0x90#8) }
    (mosi ≠ [] → exec (.runt mosi) s = .next (after .idle).finish) ∧
    exec (.requestPhaseTimeout mosi) s = .next (after .ignoring).finish

/-- In STARTUP every completed request is answered STARTING and has no effect; a frame cut short is ignored (R11). -/
def Obligations.StartupAnswersStarting : Prop :=
  ∀ (s : State) (mosi : List Byte), s.resetLine = none → s.mode = .startup →
    let ended (phase : FramePhase) : State :=
      { s with link := { s.link with phase := phase }, attn := { s.attn with claim := none } }
    (∀ f, completedRequest mosi = some f →
      exec (.startingFrame mosi) s = .next (ended (.replying ⟨0x03#8, f.tag, []⟩ false .nothing)).finish) ∧
    (completedRequest mosi = none → mosi ≠ [] →
      exec (.startingFrame mosi) s = .next (ended .idle).finish ∧ exec (.runt mosi) s = .next (ended .idle).finish) ∧
    (completedRequest mosi = none → exec (.requestPhaseTimeout mosi) s = .next (ended .ignoring).finish)

/-- A cut reply commits nothing and sets REPLY_CUT; an end with nothing of its kind delivered, or of an ignored frame,
commits nothing (log 17) (R14, R16, R17, R24). -/
def Obligations.FrameEndsCommitOnlyTheirOwn : Prop :=
  ∀ (s : State) (r : Reply) (recorded : Bool) (d : Delivery), s.Awake →
    let idle (cut : Bool) : State :=
      { s with link := { s.link with phase := .idle, replyCut := cut }, attn := { s.attn with claim := none } }
    (s.link.phase = .replying r recorded d →
      exec .replyCut s = .next (idle (recorded || s.link.replyCut)).finish ∧
      (d = .nothing → ∀ c ∈ [Instr.fetchPortCommit, .fetchJournalCommit, .claimCommit],
        exec c s = .next (idle s.link.replyCut).finish) ∧
      ((∀ p n, d ≠ .slot p n) → d ≠ .nothing → exec .fetchPortCommit s = .next s.finish) ∧
      ((∀ seq, d ≠ .entry seq) → d ≠ .nothing → exec .fetchJournalCommit s = .next s.finish) ∧
      (d ≠ .claim → d ≠ .nothing → exec .claimCommit s = .next s.finish)) ∧
    (∀ c ∈ [Instr.replyCut, .fetchPortCommit, .fetchJournalCommit, .claimCommit],
      (s.link.phase = .idle → exec c s = .next s.finish) ∧
      (s.link.phase = .ignoring →
        exec c s = .next ({ s with link := { s.link with phase := .idle } } : State).finish))

/-- READ returns its registers (own CONFIRM_LAPSED counted: log 34) or names the lowest unmapped address (count 0: log 14);
each read-only register shows its fields (R6, R17, R19, R48, R65, R81, R101, R126, R149, R152, R165, R183). -/
def Obligations.ReadReturnsTheRange : Prop :=
  (∀ (s : State) (f : FrameHead) (start : Word) (count : Byte), Sent s f kindRead (wordBytes start ++ [count]) →
    let mapped (i : Nat) : Prop := regAt (start.toNat + i) ≠ none
    (1 ≤ count.toNat → count.toNat ≤ 16 → (∀ i < count.toNat, mapped i) →
      exec (.read f start count) s =
        .next ((s.begun.answered f kindRead 0x00#8
          ((List.range count.toNat).flatMap (fun i => wordBytes (s.begun.readAddress (start.toNat + i)))) .nothing).finish)) ∧
    (∀ i < min count.toNat 16, ¬mapped i → (∀ j < i, mapped j) →
      exec (.read f start count) s = .next (s.rejected kindRead f.tag 0x86#8 (start + BitVec.ofNat 16 i)).finish) ∧
    ((count.toNat = 0 ∨ 16 < count.toNat) → (∀ i < min count.toNat 16, mapped i) →
      exec (.read f start count) s = .next (s.rejected kindRead f.tag 0x89#8 0#16).finish)) ∧
  (∀ s : State,
    let shows (address : Nat) (w : Word) : Prop := s.readAddress address = w
    let bit (b : Bool) : BitVec 1 := BitVec.ofBool b
    let mode : BitVec 2 := match s.mode with | .startup => 0 | .standby => 1 | .operate => 2 | .safeHold => 3
    let cause : BitVec 2 := match s.safeCause with | .none => 0 | .host => 1 | .keepalive => 2
    let field : BitVec 2 := match s.sup.field with | .good => 0 | .low => 1 | .restoring => 2
    let keepalive : BitVec 3 :=
      match s.ka.state with | .disarmed => 0 | .armed => 1 | .warned => 2 | .expired => 3 | .suspended => 4
    let bank (b : BankState) : BitVec 2 := match b with | .invalid => 0 | .valid => 1 | .bad => 2
    let current : BitVec 2 := match s.store.current with | none => 0 | some .a => 1 | some .b => 2
    let commit : BitVec 2 :=
      match s.store.commit with | .idle => 0 | .erasing _ => 1 | .programming _ => 2 | .verifying _ => 3
    let capture := s.link.capture
    let topSource : BitVec 4 := match s.attn.stack with | [] => 15 | e :: _ => BitVec.ofNat 4 (sourceNumber e.source)
    let topPriority : BitVec 3 := match s.attn.stack with | [] => 0 | e :: _ => e.priority
    let floor := s.cfg.attnFloor.extractLsb' 0 3
    shows 0x000 0x0848#16 ∧ shows 0x001 s.store.revision ∧ shows 0x002 (0#13 ++ s.link.unit) ∧ shows 0x003 (0#12 ++ cause ++ mode) ∧
    shows 0x004 (0#14 ++ s.resetCause) ∧ shows 0x005 s.deviceCondition ∧ shows 0x007 0#16 ∧
    s.readAddress 0x008 ++ s.readAddress 0x009 = s.timeBase ∧
    shows 0x00A (s.sup.attempts ++ 0#4 ++ bit s.inhibit ++ bit s.sup.hot ++ field) ∧
    shows 0x010 (0#4 ++ bit s.link.replyCut ++ s.link.lastKind ++ s.link.lastTag) ∧ shows 0x011 s.link.rejects ∧
    shows 0x012 (bit capture.held ++ bit capture.overflow ++ 0#3 ++ capture.kind ++ capture.code) ∧
    shows 0x013 (0#8 ++ capture.tag) ∧ shows 0x014 capture.address ∧ shows 0x015 capture.time ∧ shows 0x016 s.link.runts ∧
    (∀ n, (s.readAddress 0x020).getLsbD n = true ↔ ∃ src, sourceNumber src = n ∧ (s.attn.latch src).nonempty = true) ∧
    shows 0x021 (0#1 ++ (if floor.toNat < topPriority.toNat then topPriority else floor) ++ 0#1 ++ topPriority ++ topSource ++
      0#1 ++ BitVec.ofNat 3 s.attn.stack.length) ∧
    shows 0x031 (s.journal.refusals ++ 0#2 ++ BitVec.ofNat 6 s.journal.entries.length) ∧ shows 0x032 s.journal.nextSeq ∧
    shows 0x033 s.journal.lost ∧ shows 0x038 (0#4 ++ s.cfg.autoArm ++ 0#1 ++ s.ka.period ++ 0#1 ++ keepalive) ∧
    (s.ka.state = .armed ∨ s.ka.state = .warned → ∀ period,
      [10, 20, 50, 100, 200, 500, 1000, 2000][s.ka.period.toNat]? = some period →
      shows 0x039 (BitVec.ofNat 16 (period - s.ka.elapsedMs))) ∧
    (s.ka.state ≠ .armed → s.ka.state ≠ .warned → shows 0x039 0#16) ∧
    shows 0x03C (0#4 ++ bit s.store.factoryValid ++ s.store.lastResult ++ bank s.store.bankB ++ bank s.store.bankA ++ current ++
      commit) ∧
    shows 0x03D s.store.generation ∧
    shows 0x03E (BitVec.ofNat 16 ((List.finRange 32).filter (fun n => n ∉ s.heldSlots)).length) ∧
    ∀ p : Fin 8,
      let pt := s.port p
      let e := pt.engine
      let c := s.conf p
      let shows (offset : Nat) (w : Word) : Prop := s.readAddress (0x100 + 0x20 * p.val + offset) = w
      let output (x : OutState) : BitVec 3 :=
        match x with | .disabled => 0 | .engaged => 1 | .limiting => 2 | .tripped => 3 | .latched => 4 | .inhibited => 5
      let engine : BitVec 3 :=
        match e.state with | .detached => 0 | .waking => 1 | .bound => 2 | .paused => 3 | .lost => 4 | .held => 5
      let reason : BitVec 4 :=
        match e.reason with
        | .none => 0 | .feedOff => 1 | .signalOff => 2 | .supply => 3 | .mode => 4 | .standby => 5 | .noNode => 6 | .failures => 7
        | .version => 8 | .identity => 9 | .imageLength => 10 | .cycle => 11 | .host => 12
      let inFlight : Nat := match pt.inFlight with | none => 0 | some _ => 1
      let raw := s.pins.raw.get p && decide (c.signalMode ≠ 0) && decide (s.mode ≠ .startup)
      shows 0x06 (0#2 ++ bit (decide (∃ r ∈ pt.held, r.origin = .notice)) ++ BitVec.ofNat 1 inFlight ++
        BitVec.ofNat 4 pt.done.length ++ BitVec.ofNat 4 pt.queue.length ++
        BitVec.ofNat 4 (pt.queue.length + inFlight + pt.done.length)) ∧
      shows 0x10 (0#1 ++ output pt.signal.state ++ 0#1 ++ output pt.feed.state ++ reason ++ bit e.pauseRequested ++ engine) ∧
      shows 0x11 pt.condition ∧
      shows 0x12 (0#4 ++ e.inputLen.extractLsb' 0 4 ++ 0#2 ++ bit e.notice ++ bit e.fault ++ bit (pt.rx.settling != none) ++
        bit raw ++ bit pt.rx.level ++ bit (e.valid && decide (c.signalMode = 5))) ∧
      shows 0x13 e.inputImage.w0 ∧ shows 0x14 e.inputImage.w1 ∧ shows 0x15 e.inputImage.w2 ∧ shows 0x16 e.inputImage.w3 ∧
      shows 0x17 e.nodeClass ∧ shows 0x18 (e.nodeId.extractLsb' 16 16) ∧ shows 0x19 (e.nodeId.extractLsb' 0 16) ∧
      shows 0x1A e.retryCount ∧ shows 0x1B e.failedExchanges ∧ shows 0x1C e.missedTicks ∧ shows 0x1D pt.feed.trips ∧
      shows 0x1E pt.signal.trips ∧ shows 0x1F (pt.signal.count ++ pt.feed.count))

/-- The first step of a confirmed command that passes its checks leaves only the pending confirmation, its record and its
reply (R21, R167, R168, R179, R181, R182, R188). -/
def Obligations.FirstStepsOnlyRemember : Prop :=
  ∀ (s : State) (f : FrameHead),
    let remembered (code : Byte) (args : List Byte) : Host.Outcome State Fault Refusal :=
      .next ({ s.begun with link := { s.begun.link with confirm := some ⟨code, args, f.tag⟩ } }.answered f kindIssue 0x01#8 []
        .nothing).finish
    let refusal (code : Byte) : Host.Outcome State Fault Refusal := .next (s.rejected kindIssue f.tag code 0#16).finish
    (∀ k : Byte, k.toNat ≤ 7 → Issued s f 0x28#8 [k] →
      exec (.kaArm f [k]) s = if s.mode = .operate then remembered 0x28#8 [k] else refusal 0x8A#8) ∧
    (Issued s f 0x29#8 [] → exec (.kaDisarm f []) s =
      if s.ka.state = .armed ∨ s.ka.state = .warned then remembered 0x29#8 [] else refusal 0x8A#8) ∧
    (Issued s f 0x30#8 [] → exec (.storeCommit f []) s =
      if s.mode ≠ .standby then refusal 0x8A#8
      else if s.store.commit ≠ .idle then refusal 0x8B#8 else remembered 0x30#8 []) ∧
    (Issued s f 0x32#8 [] → exec (.storeDefaults f []) s =
      if s.mode ≠ .standby then refusal 0x8A#8
      else if s.store.commit ≠ .idle then refusal 0x8B#8 else remembered 0x32#8 []) ∧
    (Issued s f 0x38#8 [] → exec (.softReset f []) s = remembered 0x38#8 [])

/-- CONFIRM: empty, nothing pending, a mismatch and a failed re-check are refused (the last two use up the record); a match
executes the command (R18, R22, R23). -/
def Obligations.ConfirmUsesUpTheRecord : Prop :=
  (∀ (s : State) (f : FrameHead), Issued s f 0x01#8 [] →
    exec (.confirm f []) s = .next (s.rejected kindIssue f.tag 0x89#8 0#16).finish) ∧
  ∀ (s : State) (f : FrameHead) (code : Byte) (args : List Byte), args.length ≤ 6 → Issued s f 0x01#8 (code :: args) →
    let outcome := exec (.confirm f (code :: args)) s
    let unpended : State := { s with link := { s.link with confirm := none } }
    (s.link.confirm = none → outcome = .next (s.rejected kindIssue f.tag 0x8F#8 0#16).finish) ∧
    (∀ r, s.link.confirm = some r → (r.code ≠ code ∨ r.args ≠ args) →
      outcome = .next (unpended.rejected kindIssue f.tag 0x8F#8 0#16).finish) ∧
    (∀ r c why, s.link.confirm = some r → r.code = code → r.args = args → parseCommand code args = .ok c →
      c.check s = some why → outcome = .next (unpended.rejected kindIssue f.tag why 0#16).finish) ∧
    (∀ r c, s.link.confirm = some r → r.code = code → r.args = args → parseCommand code args = .ok c → c.check s = none →
      outcome = .next ((c.run s.begunConfirm).close (issueFrame f 0x01#8 (code :: args))).finish)

/-- A pending confirmation lapses with its entry at the timeout and at any other accepted frame; with none the timeout does
nothing (log 2) (R23, R13). -/
def Obligations.ConfirmationLapses : Prop :=
  ∀ s : State,
    let gone (cause : Byte) (r : Pending) : State :=
      { s with
        link := { s.link with confirm := none }
        journal := s.journal.put s.cfg.journalConfig s.timeBase
          ⟨.link, false, 8#8, 0x51#8, [r.code, r.tag, cause]⟩ }
    let ended (t : State) : State := { t with link := { t.link with phase := .idle }, attn := { t.attn with claim := none } }
    (∀ r, s.link.confirm = some r → (s.Awake → exec .confirmLapsed s = .next (gone 2#8 r).finish) ∧ s.begun = ended (gone 1#8 r)) ∧
    (s.link.confirm = none → (s.Awake → exec .confirmLapsed s = .next s.finish) ∧ s.begun = ended s)

/-- GO_STANDBY disables every output, detaches every engine and disarms the keepalive; in STANDBY it changes nothing (R27,
R28, R35, R170). -/
def Obligations.GoStandbyStopsEverything : Prop :=
  ∀ (s : State) (f : FrameHead), Issued s f 0x09#8 [] →
    (s.mode = .standby → exec (.goStandby f []) s = .next (s.begun.acknowledged f []).finish) ∧
    (s.mode ≠ .standby → ∃ t, exec (.goStandby f []) s = .next t ∧ Replying t f kindIssue 0x00#8 [] .nothing ∧
      t.mode = .standby ∧ t.safeCause = .none ∧ t.ka = { s.ka with state := .disarmed } ∧
      (∀ p o, (t.port p).out o = { (s.port p).out o with state := .disabled, count := 0#8, timer := none }) ∧
      (∀ p, (t.engine p).state = .detached ∧ (t.port p).rx = (s.port p).rx ∧ (t.port p).condition = (s.port p).condition ∧
        ((s.engine p).state = .detached →
          (t.engine p).reason = (s.engine p).reason ∧ (t.port p).queue = (s.port p).queue ∧
          (t.port p).inFlight = (s.port p).inFlight ∧ (t.port p).done = (s.port p).done) ∧
        ((s.engine p).state ≠ .detached →
          (t.engine p).reason = .standby ∧ (t.port p).queue = [] ∧ (t.port p).inFlight = none ∧
          (t.port p).done =
            (s.port p).done ++ ((s.port p).inFlight.toList ++ (s.port p).queue).map (fun r => ⟨r, .abandoned⟩))) ∧
      (let old : Byte := match s.mode with | .startup => 0 | .standby => 1 | .operate => 2 | .safeHold => 3
       ∃ more : List Event, (∀ e ∈ more, e.OfPort) ∧
        t.journal = s.begun.met
          ((if s.ka.state = .disarmed then [] else [⟨.keepalive, false, 10#8, 0x61#8, [2#8]⟩]) ++ modeChanged old 1#8 1#8 :: more)) ∧
      t.attn.codes.mode = s.attn.codes.mode ∧
      { t with
        mode := s.mode, safeCause := s.safeCause, ka := s.ka, ports := s.ports, link := s.link, journal := s.journal,
        attn := s.attn, atn := s.atn } = s)

/-- GO_OPERATE in STANDBY lets every output compare its enable and wakes the auto-bind engines; elsewhere it is refused (R29,
R35, R51, R52, R103). -/
def Obligations.GoOperateRunsTheConfiguration : Prop :=
  ∀ (s : State) (f : FrameHead), Issued s f 0x08#8 [] →
    (s.mode ≠ .standby → exec (.goOperate f []) s = .next (s.rejected kindIssue f.tag 0x8A#8 0#16).finish) ∧
    (s.mode = .standby → s.store.commit ≠ .idle →
      exec (.goOperate f []) s = .next (s.rejected kindIssue f.tag 0x8B#8 0#16).finish) ∧
    (s.mode = .standby → s.store.commit = .idle → ∃ t, exec (.goOperate f []) s = .next t ∧
      Replying t f kindIssue 0x00#8 [] .nothing ∧ t.mode = .operate ∧ t.safeCause = .none ∧
      (∀ p o, (t.port p).out o =
        ((s.port p).out o).judged (outEnabled .operate (s.conf p) o) s.inhibit (t.overloaded p o) ((s.conf p).cutoff o)) ∧
      (∀ p, (s.engine p).state = .detached → (t.engine p).state =
        if (s.conf p).tether = true ∧ (s.conf p).autoBind = true ∧ (t.port p).feed.state = .engaged ∧
          (t.port p).signal.state = .engaged then .waking else .detached) ∧
      t.journal = s.begun.met [modeChanged 1#8 2#8 1#8] ∧
      (∀ src, src ≠ .journal → t.attn.latch src = s.attn.latch src) ∧
      { t with
        mode := s.mode, safeCause := s.safeCause, ports := s.ports, link := s.link, journal := s.journal, attn := s.attn,
        atn := s.atn } = s)

/-- ENTER_SAFE in OPERATE enters SAFE_HOLD with cause HOST, suspends the keepalive and applies every safe action (R31, R35,
R172, R170, R51). -/
def Obligations.EnterSafeAppliesSafeActions : Prop :=
  ∀ (s : State) (f : FrameHead), Issued s f 0x0A#8 [] →
    (s.mode ≠ .operate → exec (.enterSafe f []) s = .next (s.rejected kindIssue f.tag 0x8A#8 0#16).finish) ∧
    (s.mode = .operate → ∃ t, exec (.enterSafe f []) s = .next t ∧ Replying t f kindIssue 0x00#8 [] .nothing ∧
      t.mode = .safeHold ∧ t.safeCause = .host ∧
      t.ka = (if s.ka.state = .armed ∨ s.ka.state = .warned then { s.ka with state := .suspended } else s.ka) ∧
      (∀ p o, (t.port p).out o =
        ((s.port p).out o).judged (outEnabled .safeHold (s.conf p) o) s.inhibit (t.overloaded p o) ((s.conf p).cutoff o)) ∧
      (∀ p, (s.conf p).tether = true → (s.conf p).safePoll = false → (s.engine p).state ≠ .detached →
        (t.engine p).state = .detached ∧ (t.engine p).reason = .mode ∧ (t.port p).queue = [] ∧ (t.port p).inFlight = none ∧
        (t.port p).done =
          (s.port p).done ++ ((s.port p).inFlight.toList ++ (s.port p).queue).map (fun r => ⟨r, .abandoned⟩)) ∧
      (∀ p, (s.conf p).tether = true → (s.conf p).safePoll = true → (s.engine p).due = false →
        (t.port p).feed.state.conducts = true → (t.port p).signal.state.conducts = true →
        t.engine p = s.engine p ∧ (t.port p).queue = (s.port p).queue ∧ (t.port p).inFlight = (s.port p).inFlight) ∧
      (∃ more : List Event, (∀ e ∈ more, e.OfPort) ∧ t.journal = s.begun.met (modeChanged 2#8 3#8 1#8 :: more)) ∧
      t.attn.codes.mode = s.attn.codes.mode ∧
      { t with
        mode := s.mode, safeCause := s.safeCause, ka := s.ka, ports := s.ports, link := s.link, journal := s.journal,
        attn := s.attn, atn := s.atn } = s)

/-- RESUME in SAFE_HOLD returns to OPERATE, rearms a stopped keepalive and withdraws the safe actions; elsewhere it is
refused (R34, R35, R173, R170, R51). -/
def Obligations.ResumeReturnsToTheConfiguration : Prop :=
  ∀ (s : State) (f : FrameHead), Issued s f 0x0B#8 [] →
    (s.mode ≠ .safeHold → exec (.resume f []) s = .next (s.rejected kindIssue f.tag 0x8A#8 0#16).finish) ∧
    (s.mode = .safeHold → ∃ t, exec (.resume f []) s = .next t ∧ Replying t f kindIssue 0x00#8 [] .nothing ∧
      t.mode = .operate ∧ t.safeCause = .none ∧
      t.ka = (if s.ka.state = .expired ∨ s.ka.state = .suspended then ⟨.armed, s.ka.period, 0⟩ else s.ka) ∧
      (∀ p o, (t.port p).out o =
        ((s.port p).out o).judged (outEnabled .operate (s.conf p) o) s.inhibit (t.overloaded p o) ((s.conf p).cutoff o)) ∧
      (∀ p, (s.engine p).state = .detached → (t.engine p).state =
        if (s.conf p).tether = true ∧ (s.conf p).autoBind = true ∧ (t.port p).feed.state = .engaged ∧
          (t.port p).signal.state = .engaged then .waking else .detached) ∧
      t.journal = s.begun.met
        ((if s.ka.state = .expired ∨ s.ka.state = .suspended then
          [⟨.keepalive, false, 10#8, 0x60#8, [BitVec.ofNat 8 s.ka.period.toNat]⟩] else []) ++ [modeChanged 3#8 2#8 1#8]) ∧
      (∀ src, src ≠ .journal → t.attn.latch src = s.attn.latch src) ∧
      { t with
        mode := s.mode, safeCause := s.safeCause, ka := s.ka, ports := s.ports, link := s.link, journal := s.journal,
        attn := s.attn, atn := s.atn } = s)

/-- KA_EXPIRED in WARNED takes the device to SAFE_HOLD, sets its flag and marks KEEPALIVE and MODE; in any other state it
does nothing (log 2) (R32, R35, R166, R170, R43, R172). -/
def Obligations.KeepaliveExpiryEntersSafeHold : Prop :=
  ∀ s : State, s.Awake →
    (s.ka.state ≠ .warned → exec .kaExpired s = .next s.finish) ∧
    (s.ka.state = .warned → ∃ t, exec .kaExpired s = .next t ∧
      t.mode = .safeHold ∧ t.safeCause = .keepalive ∧ t.ka = { s.ka with state := .expired } ∧
      t.deviceCondition = s.deviceCondition ||| 0x0004#16 ∧
      (∀ p o, (t.port p).out o =
        ((s.port p).out o).judged (outEnabled .safeHold (s.conf p) o) s.inhibit (t.overloaded p o) ((s.conf p).cutoff o)) ∧
      t.attn.codes.keepalive = ⟨2#8, bump8 s.attn.codes.keepalive.count⟩ ∧
      t.attn.codes.mode = ⟨2#8, bump8 s.attn.codes.mode.count⟩ ∧
      (let old : Byte := match s.mode with | .startup => 0 | .standby => 1 | .operate => 2 | .safeHold => 3
       ∃ more : List Event, (∀ e ∈ more, e.OfPort) ∧
        t.journal = s.met
          (⟨.keepalive, false, 10#8, 0x63#8, [BitVec.ofNat 8 s.ka.period.toNat]⟩ :: modeChanged old 3#8 2#8 :: more)) ∧
      { t with
        mode := s.mode, safeCause := s.safeCause, ka := s.ka, deviceCondition := s.deviceCondition, ports := s.ports,
        journal := s.journal, attn := s.attn, atn := s.atn } = s)

/-- KA_WARNING in ARMED warns at half the period (log 20), else nothing (log 2); KA_REFRESH restarts a running timer and
reports what was left (R166, R169). -/
def Obligations.KeepaliveWarningAndRefresh : Prop :=
  ∀ (s : State) (f : FrameHead),
    (s.Awake → exec .kaWarning s = .next
      (if s.ka.state = .armed then
        { s with
          ka := { s.ka with state := .warned, elapsedMs := keepaliveMs s.ka.period.toNat / 2 }
          journal := s.journal.put s.cfg.journalConfig s.timeBase
            ⟨.keepalive, false, 10#8, 0x62#8, [BitVec.ofNat 8 s.ka.period.toNat]⟩
          attn := s.attn.mark .keepalive (fun l => l.addCode 1#8) }
      else s).finish) ∧
    (Issued s f 0x2A#8 [] → (s.ka.state = .armed ∨ s.ka.state = .warned) →
      exec (.kaRefresh f []) s =
        .next ({ s.begun with ka := ⟨.armed, s.ka.period, 0⟩ }.acknowledged f
          (wordBytes (BitVec.ofNat 16 (keepaliveMs s.ka.period.toNat - s.ka.elapsedMs)))).finish) ∧
    (Issued s f 0x2A#8 [] → s.ka.state ≠ .armed → s.ka.state ≠ .warned →
      exec (.kaRefresh f []) s = .next (s.rejected kindIssue f.tag 0x8A#8 0#16).finish) ∧
    (∀ args : List Byte, args ≠ [] → args.length ≤ 7 → Issued s f 0x2A#8 args →
      exec (.kaRefresh f args) s = .next (s.rejected kindIssue f.tag 0x89#8 0#16).finish)

/-- The CONFIRM of KA_ARM arms with a fresh timer and sets the auto-arm setting; that of KA_DISARM disarms and clears it
(R167, R168, R22). -/
def Obligations.KeepaliveArmAndDisarmExecute : Prop :=
  ∀ (s : State) (f : FrameHead),
    let b := s.begunConfirm
    (∀ k : Byte, k.toNat ≤ 7 → Issued s f 0x01#8 [0x28#8, k] → (∃ tag, s.link.confirm = some ⟨0x28#8, [k], tag⟩) →
      s.mode = .operate →
      exec (.confirm f [0x28#8, k]) s =
        .next ({ b with
          ka := ⟨.armed, k.setWidth 3, 0⟩
          cfg := { b.cfg with autoArm := k.setWidth 4 + 1#4 }
          journal := b.journal.put s.cfg.journalConfig s.timeBase ⟨.keepalive, false, 10#8, 0x60#8, [k]⟩ }.acknowledged f
          []).finish) ∧
    (Issued s f 0x01#8 [0x29#8] → (∃ tag, s.link.confirm = some ⟨0x29#8, [], tag⟩) →
      (s.ka.state = .armed ∨ s.ka.state = .warned) →
      exec (.confirm f [0x29#8]) s =
        .next ({ b with
          ka := { s.ka with state := .disarmed }
          cfg := { b.cfg with autoArm := 0#4 }
          journal := b.journal.put s.cfg.journalConfig s.timeBase ⟨.keepalive, false, 10#8, 0x61#8, [1#8]⟩ }.acknowledged f
          []).finish) ∧
    (∀ args : List Byte, args.length ≤ 7 → Issued s f 0x28#8 args → (∀ k : Byte, args = [k] → 7 < k.toNat) →
      exec (.kaArm f args) s = .next (s.rejected kindIssue f.tag 0x89#8 0#16).finish) ∧
    (∀ args : List Byte, args ≠ [] → args.length ≤ 7 → Issued s f 0x29#8 args →
      exec (.kaDisarm f args) s = .next (s.rejected kindIssue f.tag 0x89#8 0#16).finish)

/-- CLEAR_CONDITIONS clears each named flag whose underlying condition does not hold, and reports the named flags still set
(R45, R46). -/
def Obligations.ClearConditionsSparesWhatHolds : Prop :=
  ∀ (s : State) (f : FrameHead) (mask : Word),
    let bytes (scope : Byte) : List Byte := [scope, hiByte mask, loByte mask]
    let deviceHolds (n : Nat) : Prop :=
      (n = 0 ∧ s.sup.field ≠ .good) ∨ (n = 1 ∧ s.sup.hot = true) ∨
      (n = 2 ∧ s.mode = .safeHold ∧ s.safeCause = .keepalive) ∨
      (n = 3 ∧ (s.store.factoryValid = false ∨ 2 ≤ s.store.lastResult.toNat))
    let troubled (x : Output) : Prop := x.state = .limiting ∨ x.state = .tripped
    let portHolds (p : Fin 8) (n : Nat) : Prop :=
      (n = 0 ∧ troubled (s.port p).feed) ∨ (n = 1 ∧ (s.port p).feed.state = .latched) ∨
      (n = 2 ∧ troubled (s.port p).signal) ∨ (n = 3 ∧ (s.port p).signal.state = .latched) ∨
      (n = 4 ∧ (s.engine p).state = .lost) ∨ (n = 5 ∧ (s.engine p).state = .held) ∨
      (n = 6 ∧ ((s.engine p).state = .bound ∨ (s.engine p).state = .paused) ∧ (s.engine p).fault = true)
    let after (before : Word) (holds : Nat → Prop) (w : Word) : Prop :=
      ∀ n, w.getLsbD n = true ↔ before.getLsbD n = true ∧ (mask.getLsbD n = false ∨ holds n)
    (Issued s f 0x0C#8 (bytes 8#8) → mask &&& 0xFFE0#16 = 0#16 → ∃ w, after s.deviceCondition deviceHolds w ∧
      exec (.clearConditions f (bytes 8#8)) s =
        .next ({ s.begun with deviceCondition := w }.acknowledged f (wordBytes (mask &&& w))).finish) ∧
    (∀ p : Fin 8, Issued s f 0x0C#8 (bytes (BitVec.ofNat 8 p.val)) → mask &&& 0xFE00#16 = 0#16 →
      ∃ w, after (s.port p).condition (portHolds p) w ∧
        exec (.clearConditions f (bytes (BitVec.ofNat 8 p.val))) s =
          .next ((s.begun.modPort p (fun pt => { pt with condition := w })).acknowledged f (wordBytes (mask &&& w))).finish) ∧
    (∀ scope : Byte, Issued s f 0x0C#8 (bytes scope) →
      (8 < scope.toNat ∨ (scope = 8#8 ∧ mask &&& 0xFFE0#16 ≠ 0#16) ∨ (scope.toNat < 8 ∧ mask &&& 0xFE00#16 ≠ 0#16)) →
      exec (.clearConditions f (bytes scope)) s = .next (s.rejected kindIssue f.tag 0x89#8 0#16).finish)

/-- A WRITE is refused at its first failing check: address, access, range, state, mode jump, over all entries at each step
(R5, R10, R39, R40, R41). -/
def Obligations.WriteRefusalsInOrder : Prop :=
  ∀ (s : State) (f : FrameHead) (entries : List WriteEntry), 1 ≤ entries.length → entries.length ≤ 8 →
    Sent s f kindWrite (entryBytes entries) →
    let reg (e : WriteEntry) : Option Reg := regAt e.address.toNat
    let refused (code : Byte) (address : Word) : Prop :=
      exec (.write f entries) s = .next (s.rejected kindWrite f.tag code address).finish
    let final (p : Fin 8) : PortConfig := (s.cfg.apply entries).ports.get p
    let mapped := ∀ e ∈ entries, reg e ≠ none
    let writable' := ∀ e ∈ entries, ∀ r, reg e = some r → writable r = true
    let inRange := ∀ e ∈ entries, ∀ r, reg e = some r → valueLegal r e.value = true
    let locked :=
      (s.mode = .safeHold ∧ ∃ e ∈ entries, ∃ r, reg e = some r ∧ modeLocked r = true) ∨
      (s.mode = .operate ∧ ∃ p, ((s.engine p).state = .waking ∨ (s.engine p).state = .bound ∨ (s.engine p).state = .paused) ∧
        ((final p).rate ≠ (s.conf p).rate ∨ (final p).outputLen ≠ (s.conf p).outputLen ∨
          (final p).expectClass ≠ (s.conf p).expectClass ∨ (final p).expectIdHi ≠ (s.conf p).expectIdHi ∨
          (final p).expectIdLo ≠ (s.conf p).expectIdLo))
    let driving (m : Nat) : Prop := 2 ≤ m ∧ m ≤ 5
    let jumps := ∃ p, driving (s.conf p).signalMode ∧ driving (final p).signalMode ∧ (final p).signalMode ≠ (s.conf p).signalMode
    (∀ pre e post, entries = pre ++ e :: post → (∀ x ∈ pre, reg x ≠ none) → reg e = none → refused 0x86#8 e.address) ∧
    (mapped → ∀ pre e post r, entries = pre ++ e :: post → (∀ x ∈ pre, ∀ q, reg x = some q → writable q = true) →
      reg e = some r → writable r = false → refused 0x87#8 e.address) ∧
    (mapped → writable' → ¬inRange → refused 0x89#8 0#16) ∧
    (mapped → writable' → inRange → locked → refused 0x8A#8 0#16) ∧
    (mapped → writable' → inRange → ¬locked → jumps → refused 0x8C#8 0#16)

/-- An accepted WRITE gives each register its last entry, leaves every other, and judges an output it engages under the old
CURRENT (log 33) (R5, R42, R51, R52). -/
def Obligations.LastWriteGivesTheValue : Prop :=
  ∀ (s : State) (f : FrameHead) (entries : List WriteEntry), 1 ≤ entries.length → entries.length ≤ 8 →
    Sent s f kindWrite (entryBytes entries) → s.judgeWrite entries = none →
    ∃ t, exec (.write f entries) s = .next t ∧ Replying t f kindWrite 0x00#8 [] .nothing ∧
      (∀ (address : Word) (r : Reg), regAt address.toNat = some r → writable r = true →
        t.readAddress address.toNat =
          match (entries.filter (fun e => e.address == address)).getLast? with
          | some e => e.value
          | none => s.readAddress address.toNat) ∧
      (∀ p o,
        let old := s.conf p
        let new := t.conf p
        let exceeds : Bool := t.drives p o && decide (old.cutoffCurrent o < s.pins.load p o)
        (t.port p).out o =
          if outEnabled s.mode new o = outEnabled s.mode old o then (s.port p).out o
          else ((s.port p).out o).judged (outEnabled s.mode new o) s.inhibit exceeds (new.cutoff o)) ∧
      { t with
        cfg := s.cfg, ports := s.ports, link := s.link, journal := s.journal, attn := s.attn, atn := s.atn } = s

/-- A write of one PORT_MODE acts at once on that port alone: outputs, receiver and engine follow the new mode, enables and
AUTO_BIND (R38, R49, R50, R51, R62, R68, R103). -/
def Obligations.PortModeWriteActsOnItsPort : Prop :=
  ∀ (s : State) (f : FrameHead) (p : Fin 8) (value : Word),
    Sent s f kindWrite (entryBytes [⟨portAddress p 0, value⟩]) → s.mode ≠ .safeHold → value &&& 0xFC80#16 = 0#16 →
    field value 0 3 ≤ 5 →
    ¬(2 ≤ (s.conf p).signalMode ∧ 2 ≤ field value 0 3 ∧ (s.conf p).signalMode ≤ 5 ∧ field value 0 3 ≠ (s.conf p).signalMode) →
    let new : PortConfig := { s.conf p with portMode := value }
    ∃ t, exec (.signalModeChange f p value) s = .next t ∧ exec (.feedEnableChange f p value) s = .next t ∧
      exec (.driveLevelChange f p value) s = .next t ∧ exec (.autoBindSet f p value) s = .next t ∧
      Replying t f kindWrite 0x00#8 [] .nothing ∧
      t.cfg = { s.cfg with ports := s.cfg.ports.set p new } ∧ (∀ q, q ≠ p → t.port q = s.port q) ∧
      (∀ o, (t.port p).out o =
        if outEnabled s.mode new o = outEnabled s.mode (s.conf p) o then (s.port p).out o
        else ((s.port p).out o).judged (outEnabled s.mode new o) s.inhibit (t.overloaded p o) (new.cutoff o)) ∧
      ((s.conf p).tether = true → new.tether = false → (s.engine p).state ≠ .detached →
        (t.engine p).state = .detached ∧ (t.engine p).reason = .mode) ∧
      (¬((s.conf p).tether = true ∧ new.tether = false) → (s.engine p).state ≠ .detached →
        (s.port p).feed.state.conducts = true → (t.port p).feed.state.conducts = false →
        (t.engine p).state = .detached ∧ (t.engine p).reason = .feedOff) ∧
      ((s.conf p).tether = false → new.tether = true → new.portMode.getLsbD 5 = true → (s.engine p).state = .detached →
        (t.mayBind p → (t.engine p).state = .waking ∧ (t.engine p).reason = .none) ∧
        (¬t.mayBind p → (t.engine p).state = .detached) ∧ ((t.engine p).due = true ↔ t.onlyLimited p)) ∧
      (let debounces (m : Nat) : Prop := 1 ≤ m ∧ m ≤ 4
       (t.port p).rx =
        if new.signalMode = (s.conf p).signalMode ∨ (debounces (s.conf p).signalMode ∧ debounces new.signalMode) then (s.port p).rx
        else if debounces new.signalMode then ⟨s.pins.raw.get p, none⟩ else ⟨false, none⟩) ∧
      ((t.attn.causes.get p).getLsbD 9 = (s.attn.causes.get p).getLsbD 9) ∧
      { t with
        cfg := s.cfg, ports := s.ports, link := s.link, journal := s.journal, attn := s.attn, atn := s.atn } = s

/-- Overcurrents by CURRENT (log 3) move ENGAGED and LIMITING, RESTART brings TRIPPED back, SETTLE zeroes the count; no
timer, no effect (log 2) (R42, R52, R53, R56, R57, R63, R64). -/
def Obligations.ProtectionMachineMoves : Prop :=
  (∀ (s : State) (p : Fin 8) (o : Out) (load : Nat), s.Awake →
    let x := (s.port p).out o
    let c := s.conf p
    let level : Bool :=
      if s.mode = .safeHold ∧ c.safeSignal = 0 then false
      else if s.mode = .safeHold ∧ c.safeSignal = 1 then true else c.portMode.getLsbD 4
    let drives := o = .feed ∨ (c.signalMode ≠ 2 ∧ c.signalMode ≠ 3) ∨ level = true
    let limits : List Nat := match o with | .feed => [250, 500, 1000, 1500] | .signal => [50, 100, 200, 300]
    let exceeds (n : Nat) : Prop := drives ∧ ∀ limit, limits[((c.guard o).extractLsb' 0 2).toNat]? = some limit → limit < n
    let loaded : Pins :=
      match o with
      | .feed => { s.pins with loadFeed := s.pins.loadFeed.set p load }
      | .signal => { s.pins with loadSignal := s.pins.loadSignal.set p load }
    (s.overloaded p o = true ↔
      exceeds (match o with | .feed => s.pins.loadFeed.get p | .signal => s.pins.loadSignal.get p)) ∧
    (exceeds load →
      exec (.overcurrentBegin p ⟨o, load⟩) s = .next
        (if x.state = .engaged then
          ({ s with pins := loaded }.setOut p o { x with state := .limiting, timer := some (c.cutoff o) }).finish
        else ({ s with pins := loaded } : State).finish) ∧
      exec (.overcurrentEnd p ⟨o, load⟩) s = .next s.finish) ∧
    (¬exceeds load →
      exec (.overcurrentBegin p ⟨o, load⟩) s = .next s.finish ∧
      ∃ t, exec (.overcurrentEnd p ⟨o, load⟩) s = .next t ∧
        (t.port p).out o =
          (if x.state = .limiting then
            { x with state := .engaged, timer := if x.count = 0#8 then none else some 2000000 }
          else x) ∧
        (∀ o', o' ≠ o → (t.port p).out o' = (s.port p).out o') ∧ (∀ q, q ≠ p → t.port q = s.port q) ∧
        t.journal.entries = s.journal.entries ∧
        ((s.engine p).due = false → (s.port p).signal.state.conducts = true → t.engine p = s.engine p) ∧
        { t with ports := s.ports, journal := s.journal, attn := s.attn, atn := s.atn, pins := s.pins } = s ∧
        t.pins = loaded)) ∧
  (∀ (s : State) (p : Fin 8) (o : Out), s.Awake →
    let x := (s.port p).out o
    (∃ t, exec (.restart p o) s = .next t ∧
      (t.port p).out o =
        (if x.state = .tripped then
          if s.overloaded p o then { x with state := .limiting, timer := some ((s.conf p).cutoff o) }
          else { x with state := .engaged, timer := if x.count = 0#8 then none else some 2000000 }
        else x) ∧
      (∀ o', o' ≠ o → (t.port p).out o' = (s.port p).out o') ∧ (∀ q, q ≠ p → t.port q = s.port q) ∧
      (t.port p).condition = (s.port p).condition ∧
      (x.state = .tripped → t.journal.entries = s.journal.entries) ∧
      { t with ports := s.ports, journal := s.journal, attn := s.attn, atn := s.atn } = s) ∧
    exec (.settle p o) s = .next
      (if x.state = .engaged ∧ x.timer ≠ none then (s.setOut p o { x with count := 0#8, timer := none }).finish else s.finish))

/-- A trip raises both counts, latches at the budget or starts the restart timer, sets flags and causes, detaches; not
LIMITING, no trip (log 2) (R54, R55, R58, R62). -/
def Obligations.TripCountsAndLatches : Prop :=
  ∀ (s : State) (p : Fin 8) (o : Out), s.Awake →
    let x := (s.port p).out o
    let g := (s.conf p).guard o
    let count := bump8 x.count
    let latches := guardBudget g ≠ 0 ∧ guardBudget g ≤ count.toNat
    let tripBit := match o with | .feed => 0 | .signal => 2
    let latchBit := match o with | .feed => 1 | .signal => 3
    (x.state ≠ .limiting → ∃ t, exec (.trip p o) s = .next t ∧ ∀ o', (t.port p).out o' = (s.port p).out o') ∧
    (x.state = .limiting → ∃ t, exec (.trip p o) s = .next t ∧
      (latches → (t.port p).out o = ⟨.latched, count, bump16 x.trips, none⟩) ∧
      (¬latches → (t.port p).out o = ⟨.tripped, count, bump16 x.trips, some (restartUs o (guardRestart g))⟩) ∧
      (∀ o', o' ≠ o → (t.port p).out o' = (s.port p).out o') ∧ (∀ q, q ≠ p → t.port q = s.port q) ∧
      (t.port p).condition.getLsbD tripBit = true ∧ (latches → (t.port p).condition.getLsbD latchBit = true) ∧
      ((s.conf p).attnMask.getLsbD 0 = true → (t.attn.causes.get p).getLsbD 0 = true) ∧
      (latches → (s.conf p).attnMask.getLsbD 1 = true → (t.attn.causes.get p).getLsbD 1 = true) ∧
      (s.cfg.journalConfig.getLsbD 0 = true → s.journal.entries.length < 28 →
        ∃ rest, t.journal.entries = s.journal.entries ++
          ⟨s.journal.nextSeq, s.timeBase, BitVec.ofNat 8 p.val, (match o with | .feed => 0x10#8 | .signal => 0x12#8),
            s.journal.refusals, [count, BitVec.ofNat 8 (guardCurrent g)]⟩ :: rest) ∧
      ((s.engine p).state ≠ .detached → (o = .feed ∨ (s.conf p).tether = true) →
        (t.engine p).state = .detached ∧ (t.engine p).reason = (match o with | .feed => .feedOff | .signal => .signalOff)) ∧
      { t with ports := s.ports, journal := s.journal, attn := s.attn, atn := s.atn } = s)

/-- RELEASE_OUTPUT takes each selected LATCHED output out of LATCHED with count 0, reports which, and hands it to the engine;
no other output changes (R59, R62, R103). -/
def Obligations.ReleaseOutputFreesLatches : Prop :=
  ∀ (s : State) (f : FrameHead) (port sel : Byte), Issued s f 0x10#8 [port, sel] →
    ((7 < port.toNat ∨ 2 < sel.toNat) →
      exec (.releaseOutput f [port, sel]) s = .next (s.rejected kindIssue f.tag 0x89#8 0#16).finish) ∧
    (∀ p : Fin 8, port = BitVec.ofNat 8 p.val → sel.toNat ≤ 2 →
      let selected (o : Out) : Prop := match o with | .feed => sel ≠ 1#8 | .signal => sel ≠ 0#8
      let released (o : Out) : Prop := selected o ∧ ((s.port p).out o).state = .latched
      let entry (o : Out) (j : Journal) : Journal :=
        j.put s.cfg.journalConfig s.timeBase
          ⟨.output, false, BitVec.ofNat 8 p.val, 0x14#8, [match o with | .feed => 0#8 | .signal => 1#8]⟩
      ∃ (t : State) (reply : Byte) (j : Journal), exec (.releaseOutput f [port, sel]) s = .next t ∧
        Replying t f kindIssue 0x00#8 [reply] .nothing ∧
        (∀ n, reply.getLsbD n = true ↔ (n = 0 ∧ released .feed) ∨ (n = 1 ∧ released .signal)) ∧
        (∀ o, (released o → (t.port p).out o =
            ({ (s.port p).out o with state := .disabled, count := 0#8, timer := none } : Output).judged (s.enabled p o) s.inhibit
              (s.overloaded p o) ((s.conf p).cutoff o)) ∧
          (¬released o → (t.port p).out o = (s.port p).out o)) ∧
        (released .feed → j = entry .feed s.begun.journal) ∧ (¬released .feed → j = s.begun.journal) ∧
        (released .signal → t.journal.entries = (entry .signal j).entries) ∧
        (¬released .signal → t.journal.entries = j.entries) ∧
        (t.port p).condition = (s.port p).condition ∧ (∀ q, q ≠ p → t.port q = s.port q) ∧
        (t.port p).rx = (s.port p).rx ∧ (t.port p).queue = (s.port p).queue ∧ (t.port p).inFlight = (s.port p).inFlight ∧
        (t.port p).done = (s.port p).done ∧
        (let e := s.engine p
         let triggered := e.state = .detached ∧ e.reason ≠ .host ∧ (s.conf p).signalMode = 5 ∧
           (s.conf p).portMode.getLsbD 5 = true ∧ ∃ o, released o ∧ ((t.port p).out o).state.conducts = true
         (triggered → (t.mayBind p → (t.engine p).state = .waking ∧ (t.engine p).reason = .none) ∧
           (¬t.mayBind p → (t.engine p).state = .detached) ∧ ((t.engine p).due = true ↔ t.onlyLimited p)) ∧
         (¬triggered → e.due = false → (t.engine p).state = e.state ∧ (t.engine p).reason = e.reason)) ∧
        (∀ src, src ≠ .journal → t.attn.latch src = s.attn.latch src) ∧
        { t with ports := s.ports, link := s.link, journal := s.journal, attn := s.attn, atn := s.atn } = s)

/-- A raw change and the debounce expiry act on LEVEL, an edge exactly when it changes (no timer, no effect: log 2); a direct
mode drives its line (log 13) (R64, R65, R66, R67). -/
def Obligations.LevelFollowsAndLineIsDriven : Prop :=
  (∀ (s : State) (p : Fin 8) (v : Bool), s.Awake →
    let rx := (s.port p).rx
    let c := s.conf p
    let debounced := s.mode ≠ .startup ∧ 1 ≤ c.signalMode ∧ c.signalMode ≤ 4
    let raw : State := { s with pins := { s.pins with raw := s.pins.raw.set p v } }
    let receiver (u : State) (r : Receiver) : State := u.modPort p (fun pt => { pt with rx := r })
    let edge (u : State) (level : Bool) : State :=
      (u.log ⟨.line, true, BitVec.ofNat 8 p.val, 0x36#8, [if level then 1#8 else 0#8]⟩).cause p 9
    let changed := exec (.rawLevelChange p v) s
    let expired := exec (.debounceExpiry p) s
    (v = s.pins.raw.get p → changed = .next s.finish) ∧
    (v ≠ s.pins.raw.get p → ¬debounced → changed = .next raw.finish) ∧
    (v ≠ s.pins.raw.get p → debounced → c.debounce = 0 →
      changed = .next (if v = rx.level then raw.finish else (edge (receiver raw ⟨v, rx.settling⟩) v).finish)) ∧
    (v ≠ s.pins.raw.get p → debounced → c.debounce ≠ 0 →
      changed = .next (receiver raw ⟨rx.level, if v = rx.level then none else some (debounceUs c.debounce)⟩).finish) ∧
    (rx.settling = none → expired = .next s.finish) ∧
    (rx.settling ≠ none → s.pins.raw.get p = rx.level → expired = .next (receiver s ⟨rx.level, none⟩).finish) ∧
    (rx.settling ≠ none → s.pins.raw.get p ≠ rx.level →
      expired = .next (edge (receiver s ⟨s.pins.raw.get p, none⟩) (s.pins.raw.get p)).finish)) ∧
  (∀ (s : State) (p : Fin 8), s.Awake → 2 ≤ (s.conf p).signalMode → (s.conf p).signalMode ≤ 4 →
    let c := s.conf p
    let on := (s.port p).signal.state = .engaged ∨ (s.port p).signal.state = .limiting
    let level (v : Bool) : Prop :=
      (s.mode ≠ .safeHold ∧ c.portMode.getLsbD 4 = v) ∨
      (s.mode = .safeHold ∧ ((c.safeSignal = 0 ∧ v = false) ∨ (c.safeSignal = 1 ∧ v = true) ∨
        (c.safeSignal = 2 ∧ c.portMode.getLsbD 4 = v)))
    (¬on → s.signalPin p = .undriven) ∧
    (on → c.signalMode = 2 → (level true → s.signalPin p = .high) ∧ (level false → s.signalPin p = .undriven)) ∧
    (on → c.signalMode = 3 → (level true → s.signalPin p = .low) ∧ (level false → s.signalPin p = .undriven)) ∧
    (on → c.signalMode = 4 → (level true → s.signalPin p = .high) ∧ (level false → s.signalPin p = .low)))

/-- The field-supply monitor moves by the table of R72, counting abandoned settles; what cannot occur there is ignored (log
2), the pin moves (log 6) (R72, R73). -/
def Obligations.FieldStateMachine : Prop :=
  ∀ s : State, s.Awake →
    let u := s.sup
    let abandoned : Supervisor := ⟨.low, u.hot, bump8 u.attempts⟩
    let same (t : State) : Prop :=
      { t with
        sup := s.sup, ports := s.ports, deviceCondition := s.deviceCondition, journal := s.journal, attn := s.attn,
        atn := s.atn, pins := s.pins } = s
    let quiet (t : State) (v : Supervisor) (high : Bool) : Prop :=
      t = ({ s with sup := v, pins := { s.pins with vfieldHigh := high } } : State).finish
    (∃ t, exec .fieldFallBelowLow s = .next t ∧ same t ∧ t.pins.vfieldHigh = false ∧
      (u.field = .good → t.sup = ⟨.low, u.hot, 0#8⟩) ∧ (u.field = .low → quiet t u false) ∧
      (u.field = .restoring → quiet t abandoned false)) ∧
    (∃ t, exec .fieldFallToHigh s = .next t ∧ (u.field ≠ .restoring → quiet t u false) ∧
      (u.field = .restoring → quiet t abandoned false)) ∧
    (∃ t, exec .fieldRiseAboveHigh s = .next t ∧ (u.field ≠ .low → quiet t u true) ∧
      (u.field = .low → quiet t ⟨.restoring, u.hot, u.attempts⟩ true)) ∧
    (∃ t, exec .restoreSettleExpiry s = .next t ∧ same t ∧ t.pins = s.pins ∧ (u.field ≠ .restoring → t = s.finish) ∧
      (u.field = .restoring → t.sup = ⟨.good, u.hot, u.attempts⟩))

/-- The beginning of a low or hot period inhibits every output at the assertion, detaches every engine, and is journalled
first and marked (R60, R74, R76, R77, R79). -/
def Obligations.PeriodBeginInhibitsAndDetaches : Prop :=
  ∀ s : State, s.Awake →
    let detached : Byte := BitVec.ofNat 8 ((List.finRange 8).filter (fun p => (s.engine p).state ≠ .detached)).length
    let begins (t : State) (bit : Nat) (latch : CodeLatches → CodeLatch) (code : Byte) : Prop :=
      t.inhibit = true ∧ t.mode = s.mode ∧
      (∀ p o, (t.port p).out o =
        if s.inhibit = false ∧ (((s.port p).out o).state = .engaged ∨ ((s.port p).out o).state = .limiting ∨
          ((s.port p).out o).state = .tripped) then { (s.port p).out o with state := .inhibited, timer := none }
        else (s.port p).out o) ∧
      (∀ p, (t.engine p).state = .detached ∧ ((s.engine p).state ≠ .detached → (t.engine p).reason = .supply ∧
        (t.port p).queue = [] ∧ (t.port p).inFlight = none ∧ (t.port p).done =
          (s.port p).done ++ ((s.port p).inFlight.toList ++ (s.port p).queue).map (fun r => ⟨r, .abandoned⟩))) ∧
      t.deviceCondition = s.deviceCondition ||| (1#16 <<< bit) ∧
      (s.mode ≠ .startup → latch t.attn.codes = ⟨1#8, bump8 (latch s.attn.codes).count⟩) ∧
      (s.mode = .startup → latch t.attn.codes = latch s.attn.codes) ∧
      ∃ more : List Event, (∀ e ∈ more, e.OfPort) ∧ ((∀ p, (s.engine p).state = .detached) → more = []) ∧
        t.journal = s.met ((if s.mode = .startup then [] else [⟨.supply, false, 9#8, code, [detached]⟩]) ++ more)
    (s.inhibit = true → ∀ p o, ((s.port p).out o).state ≠ .engaged) →
    (s.sup.field = .good → ∃ t, exec .fieldFallBelowLow s = .next t ∧ t.sup = ⟨.low, s.sup.hot, 0#8⟩ ∧
      begins t 0 CodeLatches.supply 0x20#8) ∧
    (s.sup.hot = false → ∃ t, exec .thermalRise s = .next t ∧ t.sup = { s.sup with hot := true } ∧
      begins t 1 CodeLatches.thermal 0x22#8) ∧
    (s.sup.hot = true → exec .thermalRise s = .next s.finish)

/-- The end of the last period releases the inhibit: every INHIBITED output engages and auto-bind engines wake; each end is
journalled and marked (R61, R74, R75, R76, R78, R79, R103). -/
def Obligations.PeriodEndReleasesTheInhibit : Prop :=
  ∀ s : State, s.Awake →
    let ends (t : State) (released : Prop) (latch : CodeLatches → CodeLatch) (code : Byte) (detail : List Byte) : Prop :=
      (t.inhibit = false ↔ released) ∧ t.deviceCondition = s.deviceCondition ∧ t.mode = s.mode ∧
      (∀ p o, let x := (s.port p).out o
        (released → x.state = .inhibited → (t.port p).out o =
          if s.overloaded p o then { x with state := .limiting, timer := some ((s.conf p).cutoff o) }
          else { x with state := .engaged, timer := if x.count = 0#8 then none else some 2000000 }) ∧
        ((¬released ∨ x.state ≠ .inhibited) → (t.port p).out o = x)) ∧
      (∀ p, let e := s.engine p
        let triggered := released ∧ e.state = .detached ∧ e.reason ≠ .host ∧ (s.conf p).signalMode = 5 ∧
          (s.conf p).portMode.getLsbD 5 = true ∧ ∃ o, ((s.port p).out o).state = .inhibited
        (triggered → (t.mayBind p → (t.engine p).state = .waking ∧ (t.engine p).reason = .none) ∧
          (¬t.mayBind p → (t.engine p).state = .detached) ∧ ((t.engine p).due = true ↔ t.onlyLimited p)) ∧
        (¬triggered → e.due = false → (t.engine p).state = e.state ∧ (t.engine p).reason = e.reason) ∧
        (¬released → t.engine p = e)) ∧
      (s.mode ≠ .startup → latch t.attn.codes = ⟨2#8, bump8 (latch s.attn.codes).count⟩ ∧
        ∀ still : Byte, (released → still = 0#8) → (¬released → still = 1#8) →
          t.journal = s.met [⟨.supply, false, 9#8, code, detail ++ [still]⟩]) ∧
      (s.mode = .startup → latch t.attn.codes = latch s.attn.codes ∧ t.journal = s.met [])
    (s.sup.field = .restoring → ∃ t, exec .restoreSettleExpiry s = .next t ∧ t.sup = { s.sup with field := .good } ∧
      ends t (s.sup.hot = false) CodeLatches.supply 0x21#8 [s.sup.attempts]) ∧
    (s.sup.hot = true → ∃ t, exec .thermalFall s = .next t ∧ t.sup = { s.sup with hot := false } ∧
      ends t (s.sup.field = .good) CodeLatches.thermal 0x23#8 []) ∧
    (s.sup.hot = false → exec .thermalFall s = .next s.finish)

/-- END_OF_TRANSMISSION opens the answer window (log 16), TURNAROUND_EXPIRY starts a waiting attempt, HUSH_SENT ends the
HUSH; else nothing (log 2) (R88, R89, R97, R86). -/
def Obligations.AttemptsPassTheirPhases : Prop :=
  ∀ (s : State) (p : Fin 8), s.Awake →
    let e := s.engine p
    let l := e.line
    let rate (x : Exchange) : Option (BitVec 2) := if x.kind = .wake then some (s.conf p).rate else l.rate
    let withLine (k : LineState) : Host.Outcome State Fault Refusal := .next (s.modLine p (fun _ => k)).finish
    let ended := exec (.endOfTransmission p) s
    let turned := exec (.turnaroundExpiry p) s
    let hushed := exec (.hushSent p) s
    (l.exchange = none → ended = .next s.finish) ∧
    (∀ x, l.exchange = some x →
      (x.phase = .listening → ended = .next s.finish) ∧
      (x.phase = .sending → ended = withLine { l with exchange := some { x with phase := .listening } }) ∧
      (x.phase = .waiting → ended =
        withLine { l with exchange := some { x with phase := .listening }, rate := rate x, turnaround := false })) ∧
    (l.turnaround = false → turned = .next s.finish) ∧
    (l.turnaround = true →
      (∀ x, l.exchange = some x → x.phase = .waiting → turned =
        withLine { l with exchange := some { x with phase := .sending }, rate := rate x, turnaround := false }) ∧
      ((∀ x, l.exchange = some x → x.phase ≠ .waiting) → turned = withLine { l with turnaround := false })) ∧
    (l.hush = none → hushed = .next s.finish) ∧
    (l.hush ≠ none →
      (¬(e.state = .waking ∧ e.timer = .none ∧ l.exchange = none) → hushed = withLine { l with hush := none }) ∧
      (e.state = .waking → e.timer = .none → l.exchange = none → hushed =
        .next (s.modEngine p (fun e =>
          { e with
            timer := .spacing
            line := ({ l with hush := none } : LineState).wakeStarts (s.conf p).rate })).finish))

/-- A failed attempt: POLL and ASK retry the same bytes below their limit, WAKE waits for its spacing; without an attempt
nothing (logs 2 and 31) (R89, R95, R96, R97, R104, R110). -/
def Obligations.FailedAttemptsAreRetried : Prop :=
  ∀ (s : State) (p : Fin 8), s.Awake →
    let e := s.engine p
    ((∀ x, e.line.exchange = some x → x.phase ≠ .listening) →
      exec (.answerWindowExpiry p) s = .next s.finish ∧
      ∀ chars, exec (.parcelReception p chars) s = .next s.finish) ∧
    exec (.parcelReception p []) s = .next s.finish ∧
    (∀ (x : Exchange) (c : Instr) (turn : Bool), AttemptFails s p x c turn →
      (x.kind ≠ .wake → x.attempts < x.limit →
        exec c s = .next (s.modEngine p (fun e =>
          { e with
            retryCount := bump16 e.retryCount
            line :=
              { e.line with
                turnaround := turn
                exchange :=
                  some { x with attempts := x.attempts + 1, phase := if turn then .waiting else .sending } } })).finish) ∧
      (x.kind = .wake → e.wakeCount + 1 < 4 →
        let l : LineState := { e.line with turnaround := turn, exchange := none }
        (e.timer = .spacing →
          exec c s = .next (s.modEngine p (fun e => { e with wakeCount := e.wakeCount + 1, line := l })).finish) ∧
        (e.timer ≠ .spacing →
          exec c s = .next (s.modEngine p (fun e =>
            { e with
              wakeCount := e.wakeCount + 1
              timer := .spacing
              line := l.wakeStarts (s.conf p).rate })).finish)))

/-- The failure of the last attempt: POLL and ASK are counted and may lose the node; the fourth WAKE ends the waking period
(R104, R110, R113, R114, R115, R116, R117, R131, R132). -/
def Obligations.LastFailuresCountAndLose : Prop :=
  ∀ (s : State) (p : Fin 8) (x : Exchange) (c : Instr) (turn : Bool), s.Awake → AttemptFails s p x c turn →
    let e := s.engine p
    let pt := s.port p
    let waiting := abandonedSlots (pt.inFlight.toList ++ pt.queue)
    let failed : List DoneSlot := pt.inFlight.toList.map (fun r => ⟨r, .failed⟩)
    let gone (t : State) (dest : EngState) (r : Reason) : Prop :=
      (t.engine p).state = dest ∧ (t.engine p).reason = r ∧ (t.engine p).line = ⟨none, 0#2, none, false, none⟩ ∧
      (t.engine p).timer = (if dest = .lost then .rebind else .none) ∧ (t.engine p).valid = false ∧
      (t.engine p).fault = false ∧ (t.engine p).notice = false ∧ (t.engine p).pauseRequested = false ∧
      (t.engine p).failCount = 0 ∧ (t.port p).queue = [] ∧ (t.port p).inFlight = none ∧
      ((s.conf p).attnMask.getLsbD 3 = true → (t.attn.causes.get p).getLsbD 3 = true)
    (x.kind ≠ .wake → x.limit ≤ x.attempts → ∃ t, exec c s = .next t ∧ OnlyPort s t p ∧
      (t.port p).feed = pt.feed ∧ (t.port p).signal = pt.signal ∧
      (t.engine p).failedExchanges = bump16 e.failedExchanges ∧ (t.engine p).retryCount = e.retryCount ∧
      (let n := min 15 (e.failCount + 1)
       ((s.conf p).failLimit ≤ n → gone t .lost .failures ∧ (t.port p).condition.getLsbD 4 = true ∧
        (x.kind = .poll → (t.port p).done = pt.done ++ waiting) ∧
        (x.kind = .ask → (t.port p).done = pt.done ++ failed ++ abandonedSlots pt.queue)) ∧
       (n < (s.conf p).failLimit →
        (t.engine p).failCount = n ∧ (t.engine p).line.exchange = none ∧ (t.port p).queue = pt.queue ∧
        (t.engine p).state = (if e.pauseRequested then .paused else e.state) ∧
        (t.engine p).valid = (e.valid && x.kind != .poll && !e.pauseRequested) ∧
        (x.kind = .poll → (t.port p).done = pt.done ∧ (t.port p).inFlight = pt.inFlight ∧
          (t.port p).condition = pt.condition) ∧
        (x.kind = .ask → (t.port p).done = pt.done ++ failed ∧ (t.port p).inFlight = none ∧
          (pt.inFlight ≠ none → (t.port p).condition = pt.condition ||| 0x0100#16))))) ∧
    (x.kind = .wake → e.state = .waking → 3 ≤ e.wakeCount → ∃ t, exec c s = .next t ∧ OnlyPort s t p ∧
      gone t (if (s.conf p).autoRebind then .lost else .detached) .noNode ∧ (t.port p).done = pt.done ++ waiting ∧
      (t.port p).condition = (if (s.conf p).autoRebind then pt.condition ||| 0x0010#16 else pt.condition) ∧
      (t.engine p).failedExchanges = e.failedExchanges ∧ (t.engine p).retryCount = e.retryCount)

/-- An accepted ANSWER renews the image and chooses the exchange of its interval; an accepted TELL completes its slot as
DONE_OK (R95, R111, R112, R113, R130, R131, R120). -/
def Obligations.AnswersAndTellsAreAccepted : Prop :=
  ∀ (s : State) (p : Fin 8) (chars : List LineChar) (x : Exchange) (q : Parcel), Hears s p chars x q → q.seq = x.seq →
    let e := s.engine p
    let pt := s.port p
    (x.kind = .poll → q.type = 4 → q.payload.length = e.inputLen.toNat →
      ∃ t, exec (.parcelReception p chars) s = .next t ∧ OnlyPort s t p ∧
        (t.engine p).inputImage = imageOf q.payload ∧ (t.engine p).fault = q.nodeFault ∧ (t.engine p).notice = q.notice ∧
        (t.engine p).failCount = 0 ∧ (t.engine p).valid = !e.pauseRequested ∧ (t.engine p).line.turnaround = true ∧
        (t.port p).condition = (if q.nodeFault = true ∧ e.fault = false then pt.condition ||| 0x0040#16 else pt.condition) ∧
        (t.port p).done = pt.done ∧ (t.port p).feed = pt.feed ∧ (t.port p).signal = pt.signal ∧
        (let noticeServed := q.notice = true ∧ (∀ r ∈ pt.held, r.origin = .host) ∧ pt.heldCount < s.quota p ∧ s.freeSlots ≠ []
         let asks (r : Request) : Prop :=
           (t.engine p).line.exchange =
             some ⟨.ask, e.line.seq + 1#2,
               parcelBytes 5 (e.line.seq + 1#2) 0 (BitVec.ofNat 8 (opCode r.op) :: wordBytes r.index ++ r.subindex :: r.data), 1,
               1 + (s.conf p).retryLimit, .waiting⟩ ∧
           (t.port p).inFlight = some r ∧ (t.engine p).state = e.state
         let idle := (t.engine p).line.exchange = none ∧ (t.port p).inFlight = pt.inFlight ∧ (t.port p).queue = pt.queue
         (e.pauseRequested = true → (t.engine p).state = .paused ∧ (t.engine p).pauseRequested = false ∧ idle) ∧
         (e.pauseRequested = false → noticeServed → (t.port p).queue = pt.queue ∧
           ∃ n, n ∉ s.heldSlots ∧ (∀ m < n, m ∈ s.heldSlots) ∧ asks ⟨n, .notice, 0#8, .fetchNotice, 0#16, 0#8, []⟩) ∧
         (e.pauseRequested = false → ¬noticeServed → ¬(s.mode = .safeHold ∧ (s.conf p).safePoll = true) →
           ∀ r rest, pt.queue = r :: rest → asks r ∧ (t.port p).queue = rest) ∧
         (e.pauseRequested = false → ¬noticeServed →
           (pt.queue = [] ∨ (s.mode = .safeHold ∧ (s.conf p).safePoll = true)) → idle ∧ (t.engine p).state = e.state))) ∧
    (x.kind = .ask → q.type = 6 → ∀ r result data, pt.inFlight = some r → q.payload = result :: data → data.length ≤ 24 →
      ∃ t, exec (.parcelReception p chars) s = .next t ∧ OnlyPort s t p ∧
        (t.port p).inFlight = none ∧ (t.port p).done = pt.done ++ [⟨r, .doneOk result data⟩] ∧
        (t.port p).queue = pt.queue ∧ (t.port p).condition = pt.condition ∧ t.journal.entries = s.journal.entries ∧
        (t.engine p).line.exchange = none ∧ (t.engine p).failCount = 0 ∧ (t.engine p).notice = e.notice ∧
        (t.engine p).state = (if e.pauseRequested then .paused else e.state) ∧
        (let k := match r.origin with | .notice => 7 | .host => 6
         (s.conf p).attnMask.getLsbD k = true → (t.attn.causes.get p).getLsbD k = true))

/-- An accepted HELLO is checked in order: VERSION, IDENTITY, IMAGE_LENGTH, CYCLE hold the port; else it is BOUND and the
first POLL starts (R105, R106, R117, R95). -/
def Obligations.HelloBindsOrHolds : Prop :=
  ∀ (s : State) (p : Fin 8) (chars : List LineChar) (x : Exchange) (q : Parcel), Hears s p chars x q → x.kind = .wake →
    q.type = 2 → q.seq = 0#2 →
    let c := s.conf p
    let pt := s.port p
    let heard (t : State) (cls : Word) (id : BitVec 32) (code : Byte) (detail : List Byte) : Prop :=
      exec (.parcelReception p chars) s = .next t ∧ OnlyPort s t p ∧ (t.engine p).nodeClass = cls ∧ (t.engine p).nodeId = id ∧
      (t.engine p).valid = false ∧ (t.engine p).fault = false ∧ (t.engine p).notice = false ∧
      (s.cfg.journalConfig.getLsbD 2 = true → s.journal.entries.length < 31 →
        ∃ rest, t.journal.entries = s.journal.entries ++
          ⟨s.journal.nextSeq, s.timeBase, BitVec.ofNat 8 p.val, code, s.journal.refusals, detail⟩ :: rest)
    let held (t : State) (r : Reason) : Prop :=
      (t.engine p).state = .held ∧ (t.engine p).reason = r ∧ (t.engine p).line.exchange = none ∧
      (t.engine p).timer = .none ∧ (t.port p).condition = pt.condition ||| 0x0020#16 ∧ (t.port p).queue = [] ∧
      (t.port p).inFlight = none ∧ (t.port p).done = pt.done ++ abandonedSlots (pt.inFlight.toList ++ pt.queue) ∧
      (c.attnMask.getLsbD 4 = true → (t.attn.causes.get p).getLsbD 4 = true)
    (∀ version rest, q.payload = version :: rest → version ≠ 1#8 →
      ∃ t, heard t 0#16 0#32 0x32#8 [8#8, version] ∧ held t .version) ∧
    (∀ c1 c0 i3 i2 i1 i0 inLen outLen minCycle, q.payload = [1#8, c1, c0, i3, i2, i1, i0, inLen, outLen, minCycle] →
      inLen.toNat ≤ 8 → outLen.toNat ≤ 8 → minCycle.toNat ≤ 5 →
      let cls : Word := c1 ++ c0
      let id : BitVec 32 := (i3 ++ i2 ++ i1 ++ i0 : BitVec 32)
      let stranger := (c.expectClass ≠ 0#16 ∧ c.expectClass ≠ cls) ∨ (c.expectId ≠ 0#32 ∧ c.expectId ≠ id)
      let wrongLength := outLen.toNat ≠ c.outputLen.toNat
      let tooFast := c.cycle < minCycle.toNat
      (stranger → ∃ t, heard t cls id 0x32#8 [9#8, 0#8] ∧ held t .identity) ∧
      (¬stranger → wrongLength → ∃ t, heard t cls id 0x32#8 [10#8, outLen] ∧ held t .imageLength) ∧
      (¬stranger → ¬wrongLength → tooFast → ∃ t, heard t cls id 0x32#8 [11#8, minCycle] ∧ held t .cycle) ∧
      (¬stranger → ¬wrongLength → ¬tooFast → ∃ t poll, heard t cls id 0x30#8 [c1, c0, inLen, outLen] ∧
        (t.engine p).state = .bound ∧ (t.engine p).reason = .none ∧ (t.engine p).inputLen = inLen ∧
        (t.engine p).inputImage = ⟨0#16, 0#16, 0#16, 0#16⟩ ∧ (t.engine p).failCount = 0 ∧
        (t.engine p).pauseRequested = false ∧ (t.engine p).timer = .tick (cycleMs c.cycle) ∧
        (t.engine p).line.exchange = some poll ∧ poll.kind = .poll ∧ poll.phase = .waiting ∧
        poll.seq = (s.engine p).line.seq + 1#2 ∧ (t.port p).queue = pt.queue ∧ (t.port p).done = pt.done ∧
        (t.port p).condition = pt.condition ∧ (c.attnMask.getLsbD 2 = true → (t.attn.causes.get p).getLsbD 2 = true)))

/-- TICK polls or is missed, WAKE_SPACING_EXPIRY starts the next WAKE, REBIND_DELAY_EXPIRY wakes by AUTO_REBIND; no timer, no
effect (log 2) (R94, R104, R107, R108, R109, R115, R92). -/
def Obligations.EngineTimersExpire : Prop :=
  ∀ (s : State) (p : Fin 8), s.Awake →
    let e := s.engine p
    let c := s.conf p
    let q := e.line.seq + 1#2
    let withEngine (e' : Engine) : State := s.modEngine p (fun _ => e')
    ((e.state ≠ .bound ∨ ∀ ms, e.timer ≠ .tick ms) → exec (.tick p) s = .next s.finish) ∧
    (∀ ms period, e.state = .bound → e.timer = .tick ms → [2, 5, 10, 20, 50, 100][c.cycle]? = some period →
      (e.pauseRequested = true → exec (.tick p) s = .next (withEngine { e with timer := .tick period }).finish) ∧
      (∀ x, e.pauseRequested = false → e.line.exchange = some x →
        let s1 := withEngine { e with timer := .tick period, missedTicks := bump16 e.missedTicks }
        let s2 := s1.modPort p (fun pt => { pt with condition := pt.condition ||| 0x0080#16 })
        let type : Byte := match x.kind with | .wake => 1#8 | .poll => 3#8 | .ask => 5#8
        let s3 : State :=
          if (s.port p).condition.getLsbD 7 then s2
          else s2.log ⟨.line, false, BitVec.ofNat 8 p.val, 0x35#8, [type]⟩
        exec (.tick p) s = .next (s3.cause p 8).finish) ∧
      (e.pauseRequested = false → e.line.exchange = none →
        let parcel :=
          if s.mode = .safeHold ∧ c.safePoll = true then parcelBytes 3 q 1 []
          else parcelBytes 3 q 0 (c.outputImage.bytes.take c.outputLen.toNat)
        exec (.tick p) s = .next
          (withEngine { e with
            timer := .tick period, line := e.line.exchangeStarts .poll parcel c.retryLimit }).finish)) ∧
    (e.timer ≠ .spacing → exec (.wakeSpacingExpiry p) s = .next s.finish) ∧
    (e.timer = .spacing → exec (.wakeSpacingExpiry p) s = .next
      (withEngine (if e.line.exchange = none then { e with line := e.line.wakeStarts c.rate } else { e with timer := .none })).finish) ∧
    (e.timer ≠ .rebind → exec (.rebindDelayExpiry p) s = .next s.finish) ∧
    (e.timer = .rebind → exec (.rebindDelayExpiry p) s = .next
      (withEngine
        (if c.autoRebind = true ∧ s.mayBind p then e.woken c.rate
        else if c.autoRebind = true ∧ s.onlyLimited p then { e with timer := .none, due := true }
        else { e with timer := .none })).finish)

/-- Every parcel the format allows reads back as the controller sends it, start, parity and stop bits included; a fault or a
wrong CHECK is invalid (R84, R85, R87, R90, R91, R92). -/
def Obligations.ParcelsReadBackAsSent : Prop :=
  (∀ (type : Nat) (seq : BitVec 2) (flags : Nat) (payload : List Byte) (chars : List LineChar), 1 ≤ type → type ≤ 7 → flags < 4 →
    payload.length ≤ 28 → chars.map LineChar.data = parcelBytes type seq flags payload →
    ((∀ c ∈ chars, charGood c = true) →
      readParcel chars = some ⟨type, seq, flags.testBit 0, flags.testBit 1, payload⟩) ∧
    ((∃ c ∈ chars, charGood c = false) → readParcel chars = none)) ∧
  (∀ (type : Nat) (seq : BitVec 2) (flags : Nat) (payload : List Byte) (check : Byte) (chars : List LineChar), type ≤ 15 →
    flags < 4 → payload.length ≤ 28 →
    (let body := [BitVec.ofNat 8 (16 * type + 4 * seq.toNat + flags), BitVec.ofNat 8 payload.length] ++ payload
     chars.map LineChar.data = body ++ [check] → check ≠ parcelCrc body → readParcel chars = none)) ∧
  (∀ chars : List LineChar, 32 ≤ chars.length ∨ chars.length < 3 → readParcel chars = none) ∧
  wakeParcel = [0x10#8, 0x00#8, 0xB4#8] ∧
  (∀ b : Byte, ∃ parity : Bool,
    wireBits (sentChar b) = [false, b.getLsbD 0, b.getLsbD 1, b.getLsbD 2, b.getLsbD 3, b.getLsbD 4, b.getLsbD 5, b.getLsbD 6,
      b.getLsbD 7, parity, true] ∧
    (((List.range 8).filter (fun i => b.getLsbD i)).length + (if parity then 1 else 0)) % 2 = 1) ∧
  (∀ (type : Nat) (seq : BitVec 2) (flags : Nat) (payload : List Byte), 1 ≤ type → type ≤ 7 → flags < 4 → payload.length ≤ 28 →
    readParcel ((parcelBytes type seq flags payload).map sentChar) =
      some ⟨type, seq, flags.testBit 0, flags.testBit 1, payload⟩) ∧
  (∀ (s : State) (p : Fin 8), s.Awake → (s.conf p).signalMode = 5 → (s.port p).signal.state.conducts = true →
    let l := (s.engine p).line
    let sent (bytes : List Byte) : List Bool := bytes.flatMap (fun b => wireBits (sentChar b))
    (∀ x, l.hush = none → l.exchange = some x → x.phase = .sending → s.lineBits p = some (sent x.parcel)) ∧
    (l.hush ≠ none → s.lineBits p = some (sent (parcelBytes 7 0#2 0 []))) ∧
    (l.hush = none → (∀ x, l.exchange = some x → x.phase ≠ .sending) → s.lineBits p = none))

/-- BIND wakes a ready engine at once, whatever AUTO_BIND says, and is refused elsewhere; setting AUTO_BIND wakes a DETACHED
ready engine (R103, R118, R42). -/
def Obligations.BindAndAutoBindWake : Prop :=
  ∀ (s : State) (f : FrameHead) (p : Fin 8),
    let e := s.engine p
    let c := s.conf p
    let engaged := (s.port p).feed.state = .engaged ∧ (s.port p).signal.state = .engaged
    (Issued s f 0x18#8 [BitVec.ofNat 8 p.val] →
      let ready := s.mode = .operate ∧ c.signalMode = 5 ∧ engaged ∧ (e.state = .detached ∨ e.state = .lost ∨ e.state = .held)
      (ready → exec (.bind f [BitVec.ofNat 8 p.val]) s =
        .next ((s.begun.modEngine p (fun e => e.woken c.rate)).acknowledged f []).finish) ∧
      (¬ready → exec (.bind f [BitVec.ofNat 8 p.val]) s = .next (s.rejected kindIssue f.tag 0x8A#8 0#16).finish)) ∧
    (∀ value : Word, Sent s f kindWrite (entryBytes [⟨portAddress p 0, value⟩]) → s.mode = .operate → c.signalMode = 5 →
      value &&& 0xFC80#16 = 0#16 → value ^^^ c.portMode = 0x0020#16 → e.due = false →
      (value.getLsbD 5 = true → e.state = .detached → engaged → ∃ t, exec (.autoBindSet f p value) s = .next t ∧
        t.engine p = e.woken c.rate ∧ (t.port p).feed = (s.port p).feed ∧ (t.port p).signal = (s.port p).signal ∧
        (t.conf p).autoBind = true) ∧
      (value.getLsbD 5 = false → (s.port p).signal.state.conducts = true → ∃ t, exec (.autoBindSet f p value) s = .next t ∧
        t.port p = s.port p ∧ (t.conf p).autoBind = false))

/-- UNBIND detaches, reason HOST, with a HUSH from BOUND or PAUSED (rate: log 28); PAUSE and RESUME_PORT stop and restart the
use of the line (R119, R120, R121, R116, R97). -/
def Obligations.UnbindPauseResumePort : Prop :=
  ∀ (s : State) (f : FrameHead) (p : Fin 8),
    let e := s.engine p
    let pt := s.port p
    let args : List Byte := [BitVec.ofNat 8 p.val]
    let answer (t : State) : Host.Outcome State Fault Refusal := .next (t.acknowledged f []).finish
    let wrongState : Host.Outcome State Fault Refusal := .next (s.rejected kindIssue f.tag 0x8A#8 0#16).finish
    (Issued s f 0x19#8 args →
      (e.state = .detached → exec (.unbind f args) s = answer s.begun) ∧
      (e.state ≠ .detached → ∃ t, exec (.unbind f args) s = .next t ∧ Replying t f kindIssue 0x00#8 [] .nothing ∧
        (t.engine p).state = .detached ∧ (t.engine p).reason = .host ∧ (t.engine p).line.exchange = none ∧
        (t.engine p).line.hush =
          (if (e.state = .bound ∨ e.state = .paused) ∧ pt.signal.state.conducts = true then
            some (e.line.rate.getD (s.conf p).rate)
          else none) ∧
        (t.port p).queue = [] ∧ (t.port p).inFlight = none ∧ (t.port p).condition = pt.condition ∧
        (t.port p).done = pt.done ++ abandonedSlots (pt.inFlight.toList ++ pt.queue) ∧
        (∀ q, q ≠ p → t.port q = s.port q) ∧
        { t with ports := s.ports, link := s.link, journal := s.journal, attn := s.attn, atn := s.atn } = s)) ∧
    (Issued s f 0x1A#8 args →
      (e.state ≠ .bound → exec (.pause f args) s = wrongState) ∧
      (e.state = .bound → exec (.pause f args) s = answer (s.begun.modEngine p (fun e =>
        if e.line.exchange = none then { e with state := .paused, pauseRequested := false, timer := .none, valid := false }
        else { e with pauseRequested := true })))) ∧
    (Issued s f 0x1B#8 args →
      let inMode := s.mode = .operate ∨ s.mode = .safeHold
      (¬(inMode ∧ (e.state = .paused ∨ (e.state = .bound ∧ e.pauseRequested = true))) →
        exec (.resumePort f args) s = wrongState) ∧
      (inMode → e.state = .bound → e.pauseRequested = true →
        exec (.resumePort f args) s = answer (s.begun.modEngine p (fun e => { e with pauseRequested := false }))) ∧
      (inMode → e.state = .paused → e.pauseRequested = false → e.line.exchange = none →
        ∃ t poll, exec (.resumePort f args) s = .next t ∧ Replying t f kindIssue 0x00#8 [] .nothing ∧
          t.engine p =
            { e with
              state := .bound, reason := .none, timer := .tick (cycleMs (s.conf p).cycle)
              line := e.line.exchangeStarts .poll poll (s.conf p).retryLimit } ∧
          poll.length ≤ 11 ∧
          poll.head? = some (BitVec.ofNat 8 (48 + 4 * (e.line.seq + 1#2).toNat +
            (if s.mode = .safeHold ∧ (s.conf p).safePoll = true then 1 else 0)))))

/-- FLUSH frees the queued and, with PURGE, the done slots; CLEAR_COUNTERS zeroes five counters; wrong port arguments are
refused (R122, R135, R118, R189). -/
def Obligations.FlushAndClearCountersAct : Prop :=
  (∀ (s : State) (f : FrameHead),
    (∀ (p : Fin 8) (purge : Byte), purge.toNat ≤ 1 → Issued s f 0x1D#8 [BitVec.ofNat 8 p.val, purge] →
      exec (.flush f [BitVec.ofNat 8 p.val, purge]) s =
        .next ((s.begun.modPort p (fun pt =>
          { pt with queue := [], done := if purge = 1#8 then [] else pt.done })).acknowledged f
          [BitVec.ofNat 8 (s.port p).queue.length,
            if purge = 1#8 then BitVec.ofNat 8 (s.port p).done.length else 0#8]).finish) ∧
    (∀ args : List Byte, args.length ≤ 7 → (∀ port purge : Byte, args = [port, purge] → 8 ≤ port.toNat ∨ 2 ≤ purge.toNat) →
      Issued s f 0x1D#8 args → exec (.flush f args) s = .next (s.rejected kindIssue f.tag 0x89#8 0#16).finish)) ∧
  (∀ (s : State) (f : FrameHead),
    (∀ p : Fin 8, Issued s f 0x1C#8 [BitVec.ofNat 8 p.val] →
      exec (.clearCounters f [BitVec.ofNat 8 p.val]) s =
        .next ((s.begun.modPort p (fun pt =>
          { pt with
            feed := { pt.feed with trips := 0#16 }
            signal := { pt.signal with trips := 0#16 }
            engine := { pt.engine with retryCount := 0#16, failedExchanges := 0#16, missedTicks := 0#16 } })).acknowledged f
          []).finish) ∧
    (∀ args : List Byte, args.length ≤ 7 → (∀ b : Byte, args = [b] → 8 ≤ b.toNat) →
      ∀ x ∈ [((0x18#8 : Byte), Instr.bind f args), (0x19#8, .unbind f args), (0x1A#8, .pause f args),
        (0x1B#8, .resumePort f args), (0x1C#8, .clearCounters f args), (0x39#8, .portReset f args)],
        Issued s f x.1 args → exec x.2 s = .next (s.rejected kindIssue f.tag 0x89#8 0#16).finish))

/-- POST: wrong op or data, state, quota and pool are refused in order; else the lowest free slot is queued at the tail (R9,
R128, R129). -/
def Obligations.PostTakesTheLowestFreeSlot : Prop :=
  ∀ (s : State) (f : FrameHead) (p : Fin 8) (tag op : Byte) (index : Word) (subindex : Byte) (data : List Byte),
    data.length ≤ 24 →
    let selector : Byte := selectorOf (BitVec.ofNat 4 p.val)
    Sent s f kindPost ([selector, tag, op] ++ wordBytes index ++ [subindex] ++ data) →
    let outcome := exec (.post f selector tag op index subindex data) s
    let refused (code : Byte) : Prop := outcome = .next (s.rejected kindPost f.tag code 0#16).finish
    let legal := (op = 1#8 ∧ data = []) ∨ (op = 2#8 ∧ data ≠ [])
    let e := (s.engine p).state
    let ready := s.mode = .operate ∧ (s.conf p).signalMode = 5 ∧ (e = .waking ∨ e = .bound ∨ e = .paused ∨ e = .lost)
    let full := field (s.conf p).quota 0 4 ≤ (s.port p).heldCount
    let dry := ∀ n : Fin 32, n ∈ s.heldSlots
    (¬legal → refused 0x89#8) ∧ (legal → ¬ready → refused 0x8A#8) ∧ (legal → ready → full → refused 0x8D#8) ∧
    (legal → ready → ¬full → dry → refused 0x8E#8) ∧
    (legal → ready → ¬full → ∀ n : Fin 32, n ∉ s.heldSlots → (∀ m < n, m ∈ s.heldSlots) →
      outcome = .next ((s.begun.modPort p (fun pt =>
        { pt with
          queue := pt.queue ++
            [⟨n, .host, tag, if op = 1#8 then .readParam else .writeParam, index, subindex, data⟩] })).answered f kindPost
        0x00#8 [BitVec.ofNat 8 n.val] .nothing).finish)

/-- FETCH copies the oldest result or entry (own CONFIRM_LAPSED first: log 34) and removes none; its clean end removes
exactly what was delivered (R133, R134, R144, R145, R8). -/
def Obligations.FetchDeliversCommitRemoves : Prop :=
  ∀ (s : State),
    (∀ (f : FrameHead) (p : Fin 8), let selector : Byte := selectorOf (BitVec.ofNat 4 p.val)
      Sent s f kindFetch [selector] →
      ((s.port p).done = [] →
        exec (.fetchPortStream f selector) s = .next (s.begun.answered f kindFetch 0x02#8 [] .nothing).finish) ∧
      (∀ d rest, (s.port p).done = d :: rest →
        let r := d.request
        let origin : Byte := match r.origin with | .host => 0x00#8 | .notice => 0x80#8
        let op : Byte := match r.op with | .readParam => 1#8 | .writeParam => 2#8 | .fetchNotice => 3#8
        let result : List Byte :=
          match d.outcome with | .doneOk code reply => 1#8 :: code :: reply | .failed => [2#8, 0#8] | .abandoned => [3#8, 0#8]
        exec (.fetchPortStream f selector) s = .next (s.begun.answered f kindFetch 0x00#8
          ([BitVec.ofNat 8 r.slot.val, r.tag, origin ||| op, hiByte r.index, loByte r.index, r.subindex] ++ result)
          (.slot p r.slot)).finish)) ∧
    (∀ f : FrameHead, Sent s f kindFetch [0x78#8] →
      (s.begun.journal.entries = [] →
        exec (.fetchJournal f) s = .next (s.begun.answered f kindFetch 0x02#8 [] .nothing).finish) ∧
      (∀ e rest, s.begun.journal.entries = e :: rest →
        exec (.fetchJournal f) s = .next (s.begun.answered f kindFetch 0x00#8
          (wordBytes e.seq ++ wordBytes (e.time.extractLsb' 16 16) ++ wordBytes (e.time.extractLsb' 0 16) ++
            [e.source, e.code, e.gap, BitVec.ofNat 8 e.detail.length] ++ e.detail) (.entry e.seq)).finish)) ∧
    (s.Awake →
      let ended : State := { s with link := { s.link with phase := .idle }, attn := { s.attn with claim := none } }
      (∀ r recorded p d rest, s.link.phase = .replying r recorded (.slot p d.request.slot) → (s.port p).done = d :: rest →
        exec .fetchPortCommit s = .next (ended.modPort p (fun pt => { pt with done := rest })).finish) ∧
      (∀ r recorded seq, s.link.phase = .replying r recorded (.entry seq) →
        (∀ e rest, s.journal.entries = e :: rest → exec .fetchJournalCommit s =
          .next (if e.seq = seq then { ended with journal := { s.journal with entries := rest } } else ended : State).finish) ∧
        (s.journal.entries = [] → exec .fetchJournalCommit s = .next ended.finish)))

/-- JOURNAL_CLEAR empties the journal and records JOURNAL_CLEARED; JOURNAL_MARK is recorded, filtered or refused like any
event, and says which (R146, R147). -/
def Obligations.JournalClearAndMark : Prop :=
  ∀ (s : State) (f : FrameHead),
    let b := s.begun
    let config := s.cfg.journalConfig
    (Issued s f 0x20#8 [] →
      exec (.journalClear f []) s =
        .next ({ b with
          journal := ({ b.journal with entries := [] } : Journal).put config s.timeBase
            ⟨.device, false, 9#8, 0x05#8, [BitVec.ofNat 8 b.journal.entries.length]⟩ }.acknowledged f
          [BitVec.ofNat 8 b.journal.entries.length]).finish) ∧
    (∀ (code : Byte) (detail : List Byte), detail.length ≤ 4 → Issued s f 0x21#8 (code :: detail) →
      let marked (reply : List Byte) : Host.Outcome State Fault Refusal :=
        .next ({ b with
          journal := b.journal.put config s.timeBase ⟨.host, false, 12#8, code, detail⟩ }.acknowledged f reply).finish
      let admits := config.getLsbD 8 = true
      let refuses := 32 ≤ b.journal.entries.length ∧ config.getLsbD 10 = true
      (admits → ¬refuses →
        exec (.journalMark f (code :: detail)) s = marked [0#8, hiByte b.journal.nextSeq, loByte b.journal.nextSeq]) ∧
      (¬admits → exec (.journalMark f (code :: detail)) s = marked [1#8, 0#8, 0#8]) ∧
      (admits → refuses → exec (.journalMark f (code :: detail)) s = marked [2#8, 0#8, 0#8])) ∧
    (∀ args : List Byte, args ≠ [] → args.length ≤ 7 → Issued s f 0x20#8 args →
      exec (.journalClear f args) s = .next (s.rejected kindIssue f.tag 0x89#8 0#16).finish) ∧
    (∀ args : List Byte, (args = [] ∨ 6 ≤ args.length) → args.length ≤ 7 → Issued s f 0x21#8 args →
      exec (.journalMark f args) s = .next (s.rejected kindIssue f.tag 0x89#8 0#16).finish)

/-- An event is filtered, recorded, recorded over the oldest entry (WRAP) or refused (HALT), with GAP, JOURNAL_LOST and the
call for attention (R139, R140, R141, R142, R143). -/
def Obligations.JournalMeetsEvents : Prop :=
  ∀ (j : Journal) (config : Word) (time : BitVec 32) (e : Event),
    let bit := match e.cls with
      | .output => 0 | .supply => 1 | .line => 2 | .request => 3 | .link => 4 | .keepalive => 5 | .device => 6 | .store => 7
      | .host => 8
    let admits := config.getLsbD bit = true ∧ (e.edge = true → config.getLsbD 9 = true)
    let entry : Entry := ⟨j.nextSeq, time, e.source, e.code, j.refusals, e.detail⟩
    let wrap := config.getLsbD 10 = false
    (¬admits → j.put config time e = j) ∧
    (admits → j.entries.length < 32 →
      j.put config time e =
        { j with
          entries := j.entries ++ [entry], nextSeq := j.nextSeq + 1#16, refusals := 0#8
          call :=
            if j.call = some .refusal then some .refusal
            else if j.entries.length + 1 = (config.extractLsb' 11 5).toNat + 1 then some .threshold else j.call }) ∧
    (admits → 32 ≤ j.entries.length → wrap →
      j.put config time e =
        { j with
          entries := j.entries.tail ++ [entry], nextSeq := j.nextSeq + 1#16, refusals := 0#8
          lost := if j.lost = 0xFFFF#16 then j.lost else j.lost + 1#16 }) ∧
    (admits → 32 ≤ j.entries.length → ¬wrap →
      j.put config time e =
        { j with
          refusals := if j.refusals = 0xFF#8 then j.refusals else j.refusals + 1#8
          lost := if j.lost = 0xFFFF#16 then j.lost else j.lost + 1#16
          call := if j.refusals = 0#8 then some .refusal else j.call })

/-- CLAIM delivers the deliverable source of highest priority and lowest number; CLAIM_COMMIT leaves its late marks and puts
it into service (R157, R158, R155, R8). -/
def Obligations.ClaimTakesTheMostUrgent : Prop :=
  ∀ (s : State),
    (∀ f : FrameHead, Sent s f kindFetch [0x69#8] →
      let b := s.begun
      let urgent (src : Source) : Prop := (s.attn.latch src).nonempty = true ∧ s.above (s.cfg.priority src).toNat
      (∀ src, urgent src →
        (∀ other, urgent other → other ≠ src → (s.cfg.priority other).toNat < (s.cfg.priority src).toNat ∨
          ((s.cfg.priority other).toNat = (s.cfg.priority src).toNat ∧ sourceNumber src < sourceNumber other)) →
        exec (.claim f) s =
          .next ({ b with
            attn := { b.attn with claim := some ⟨src, s.cfg.priority src, emptyLatch src⟩ } }.answered f kindFetch 0x00#8
            [BitVec.ofNat 8 (sourceNumber src), BitVec.ofNat 8 (s.cfg.priority src).toNat,
              hiByte (s.attn.latch src).word, loByte (s.attn.latch src).word] .claim).finish) ∧
      ((∀ src, ¬urgent src) →
        exec (.claim f) s = .next (b.answered f kindFetch 0x02#8 [0xFF#8, BitVec.ofNat 8 s.ceiling] .nothing).finish)) ∧
    (∀ (r : Reply) (recorded : Bool) (c : Claim), s.Awake → s.link.phase = .replying r recorded .claim →
      s.attn.claim = some c →
      exec .claimCommit s =
        .next ({ s with
          link := { s.link with phase := .idle }
          attn :=
            { s.attn.setLatch c.source c.late with
              stack := ⟨c.source, c.priority⟩ :: s.attn.stack, claim := none } } : State).finish)

/-- A mark adds its cause or code to the latch of its source, and while a claim of that source waits to its late record too
(R152, R153, R154, R158). -/
def Obligations.MarksReachLatchAndLateRecord : Prop :=
  (∀ (a : Attention) (src other : Source) (f : Latch → Latch), other ≠ src → (a.mark src f).latch other = a.latch other) ∧
  (∀ (a : Attention) (src : Source) (f : Latch → Latch), (a.mark src f).stack = a.stack ∧
    (∀ c, a.claim = some c → (a.mark src f).claim = some (if c.source = src then { c with late := f c.late } else c)) ∧
    (a.claim = none → (a.mark src f).claim = none)) ∧
  (∀ (s : State) (p : Fin 8) (k n : Fin 10),
    ((s.conf p).attnMask.getLsbD k.val = false → s.cause p k = s) ∧
    ((s.conf p).attnMask.getLsbD k.val = true →
      ((((s.cause p k).attn.causes.get p).getLsbD n.val = true) ↔ n = k ∨ (s.attn.causes.get p).getLsbD n.val = true))) ∧
  (∀ (s : State) (src : Source) (code : Byte), (∀ p, src ≠ .port p) → ∀ r, s.attn.latch src = .codes r →
    (s.mark src code).attn.latch src = .codes ⟨code, if r.count = 0xFF#8 then r.count else r.count + 1#8⟩) ∧
  (∀ (s : State) (p : Fin 8) (k : Fin 10), (s.conf p).attnMask.getLsbD k.val = true →
    let t := s.cause p k
    (∀ other, other ≠ .port p → t.attn.latch other = s.attn.latch other) ∧
    (∀ c set, s.attn.claim = some c → c.late = .causes set → t.attn.claim = some
      (if c.source = .port p then { c with late := .causes (set ||| (1#10 <<< k.val)) } else c)) ∧
    (∀ c, s.attn.claim = some c → c.source ≠ .port p → t.attn.claim = some c) ∧
    (s.attn.claim = none → t.attn.claim = none) ∧ t.attn.stack = s.attn.stack ∧ { t with attn := s.attn } = s) ∧
  (∀ (s : State) (src : Source) (code : Byte), (∀ p, src ≠ .port p) →
    let t := s.mark src code
    (∀ other, other ≠ src → t.attn.latch other = s.attn.latch other) ∧
    (∀ c r, s.attn.claim = some c → c.late = .codes r → t.attn.claim = some
      (if c.source = src then { c with late := .codes ⟨code, if r.count = 0xFF#8 then r.count else r.count + 1#8⟩ } else c)) ∧
    (∀ c, s.attn.claim = some c → c.source ≠ src → t.attn.claim = some c) ∧
    (s.attn.claim = none → t.attn.claim = none) ∧ t.attn.stack = s.attn.stack ∧ { t with attn := s.attn } = s)

/-- RELEASE_ATTENTION pops the stack, DISMISS empties one latch, and the priority and floor writes change that register alone
(R155, R160, R161, R162). -/
def Obligations.ReleaseDismissAndReprogram : Prop :=
  ∀ (s : State) (f : FrameHead),
    let b := s.begun
    let badArgument : Host.Outcome State Fault Refusal := .next (s.rejected kindIssue f.tag 0x89#8 0#16).finish
    let badValue : Host.Outcome State Fault Refusal := .next (s.rejected kindWrite f.tag 0x89#8 0#16).finish
    (Issued s f 0x24#8 [] →
      (∀ e rest, s.attn.stack = e :: rest → exec (.releaseAttention f []) s =
        .next ({ b with attn := { b.attn with stack := rest } }.acknowledged f
          [BitVec.ofNat 8 (sourceNumber e.source), BitVec.ofNat 8 e.priority.toNat]).finish) ∧
      (s.attn.stack = [] → exec (.releaseAttention f []) s = .next (b.answered f kindIssue 0x04#8 [] .nothing).finish)) ∧
    (∀ (n : Byte) (src : Source), sourceNumber src = n.toNat → Issued s f 0x25#8 [n] →
      exec (.dismiss f [n]) s =
        .next ({ b with attn := b.attn.setLatch src (emptyLatch src) }.acknowledged f
          [if (s.attn.latch src).nonempty then 1#8 else 0#8, hiByte (s.attn.latch src).word,
            loByte (s.attn.latch src).word]).finish) ∧
    (∀ args : List Byte, args ≠ [] → args.length ≤ 7 → Issued s f 0x24#8 args → exec (.releaseAttention f args) s = badArgument) ∧
    (∀ args : List Byte, args.length ≤ 7 → (∀ n : Byte, args = [n] → 15 ≤ n.toNat) → Issued s f 0x25#8 args →
      exec (.dismiss f args) s = badArgument) ∧
    (∀ (r : Fin 4) (value : Word), Sent s f kindWrite (entryBytes [⟨BitVec.ofNat 16 (0x028 + r.val), value⟩]) →
      let outside := value &&& (if r = 3 then 0xF888#16 else 0x8888#16) ≠ 0#16
      (outside → exec (.attnPriorityWrite f r value) s = badValue) ∧
      (¬outside → exec (.attnPriorityWrite f r value) s =
        .next ({ b with cfg := { b.cfg with attnPriority := b.cfg.attnPriority.set r value } }.answered f kindWrite 0x00#8 []
          .nothing).finish)) ∧
    (∀ value : Word, Sent s f kindWrite (entryBytes [⟨0x0022#16, value⟩]) →
      (value &&& 0xFFF8#16 ≠ 0#16 → exec (.attnFloorWrite f value) s = badValue) ∧
      (value &&& 0xFFF8#16 = 0#16 → exec (.attnFloorWrite f value) s =
        .next ({ b with cfg := { b.cfg with attnFloor := value } }.answered f kindWrite 0x00#8 [] .nothing).finish))

/-- The CONFIRM of STORE_COMMIT starts erasing its target with a snapshot; that of STORE_DEFAULTS restores every default;
STORE_READ reads (R179, R181, R182, R22). -/
def Obligations.StoreCommandsExecute : Prop :=
  ∀ (s : State) (f : FrameHead),
    let same (t : State) : Prop :=
      { t with
        cfg := s.cfg, store := s.store, ports := s.ports, link := s.link, journal := s.journal, attn := s.attn, atn := s.atn } = s
    let ready := s.mode = .standby ∧ s.store.commit = .idle
    (Issued s f 0x01#8 [0x30#8] → (∃ tag, s.link.confirm = some ⟨0x30#8, [], tag⟩) → ready →
      let target : Bank :=
        match s.store.current with
        | some .a => .b
        | some .b => .a
        | none => if s.store.bankA = .bad ∧ s.store.bankB ≠ .bad then .b else .a
      let generation : Word := if s.store.current = none then 1#16 else s.store.generation + 1#16
      ∃ t, exec (.confirm f [0x30#8]) s = .next t ∧ same t ∧ t.cfg = s.cfg ∧ t.ports = s.ports ∧ t.link.confirm = none ∧
        Replying t f kindIssue 0x00#8 [match target with | .a => 1#8 | .b => 2#8] .nothing ∧
        t.store.commit = .erasing ⟨target, generation, s.cfg⟩ ∧ t.store.current = s.store.current ∧
        t.store.generation = s.store.generation ∧ t.store.lastResult = s.store.lastResult ∧
        t.store.bankA = (if target = .a then .invalid else s.store.bankA) ∧
        t.store.bankB = (if target = .b then .invalid else s.store.bankB) ∧
        (∀ area offset, area ≠ .bank target → offset < areaSize area →
          t.store.byteAt area offset = s.store.byteAt area offset)) ∧
    (Issued s f 0x01#8 [0x32#8] → (∃ tag, s.link.confirm = some ⟨0x32#8, [], tag⟩) → ready →
      ∃ t, exec (.confirm f [0x32#8]) s = .next t ∧ same t ∧ t.store = s.store ∧ t.link.confirm = none ∧
        Replying t f kindIssue 0x00#8 [] .nothing ∧ t.cfg = Settings.factory ∧
        ∀ p, t.engine p = s.engine p ∧ (t.port p).feed = (s.port p).feed ∧ (t.port p).signal = (s.port p).signal) ∧
    (∀ area high low count : Byte, Issued s f 0x31#8 [area, high, low, count] →
      let offset := (high ++ low : Word).toNat
      let n := count.toNat
      let read := exec (.storeRead f [area, high, low, count]) s
      let inside (a : Area) (size : Nat) : Prop := 1 ≤ n ∧ n ≤ 32 ∧ offset < size ∧ offset + n ≤ size ∧ areaOf area.toNat = some a
      let answered (a : Area) : Prop :=
        read = .next (s.begun.acknowledged f ((List.range n).map (fun i => s.store.byteAt a (offset + i)))).finish
      (inside .factory 1024 → answered .factory) ∧
      (∀ k, inside (.bank k) 1536 → (s.store.commit = .idle → answered (.bank k)) ∧
        (s.store.commit ≠ .idle → read = .next (s.rejected kindIssue f.tag 0x8B#8 0#16).finish)) ∧
      (¬inside .factory 1024 → (∀ k, ¬inside (.bank k) 1536) →
        read = .next (s.rejected kindIssue f.tag 0x89#8 0#16).finish)) ∧
    (∀ args : List Byte, args.length ≤ 7 → args.length ≠ 4 → Issued s f 0x31#8 args →
      exec (.storeRead f args) s = .next (s.rejected kindIssue f.tag 0x89#8 0#16).finish)

/-- A commit erases, programs, verifies and makes its target current, first SIGNATURE byte last; a failed phase leaves it BAD
(log 9); else nothing (log 2) (R180, R179, R181). -/
def Obligations.CommitPhasesProceed : Prop :=
  ∀ (s : State), s.Awake → s.ArrayInForm →
    let others (t : State) (k : Bank) : Prop :=
      (∀ area offset, area ≠ .bank k → offset < areaSize area → t.store.byteAt area offset = s.store.byteAt area offset) ∧
      (k = .a → t.store.bankB = s.store.bankB) ∧ (k = .b → t.store.bankA = s.store.bankA) ∧
      { t with
        store := s.store, deviceCondition := s.deviceCondition, journal := s.journal, attn := s.attn, atn := s.atn,
        free := s.free } = s
    let bank (t : State) (k : Bank) : BankState := match k with | .a => t.store.bankA | .b => t.store.bankB
    let failed (c : Instr) (k : Bank) (step : BitVec 3) (untouched : Nat → Prop) : Prop :=
      ∃ t, exec c s = .next t ∧ others t k ∧
        (∀ offset < 1536, untouched offset → t.store.byteAt (.bank k) offset = s.store.byteAt (.bank k) offset) ∧ bank t k = .bad ∧ t.store.commit = .idle ∧ t.store.lastResult = step ∧
        t.store.current = s.store.current ∧ t.store.generation = s.store.generation ∧
        t.deviceCondition = s.deviceCondition ||| 0x0008#16 ∧
        t.attn.codes.store = ⟨2#8, bump8 s.attn.codes.store.count⟩
    let proceeds (t : State) (k : Bank) (next : Commit) : Prop :=
      others t k ∧ t.store.commit = next ∧ bank t k = bank s k ∧ t.store.current = s.store.current ∧
      t.store.generation = s.store.generation ∧ t.store.lastResult = s.store.lastResult ∧
      t.deviceCondition = s.deviceCondition ∧ t.free = s.free
    (∀ job, s.store.commit = .erasing job → failed (.eraseComplete false) job.target 2#3 (fun _ => False) ∧
      ∃ t, exec (.eraseComplete true) s = .next t ∧ proceeds t job.target (.programming job) ∧
        ∀ offset < 1536, t.store.byteAt (.bank job.target) offset = 0xFF#8) ∧
    (∀ job, s.store.commit = .programming job → failed (.programComplete false) job.target 3#3 (fun n => n = 0 ∨ 307 ≤ n) ∧
      ∃ t, exec (.programComplete true) s = .next t ∧ proceeds t job.target (.verifying job) ∧
        t.store.byteAt (.bank job.target) 0 = s.store.byteAt (.bank job.target) 0 ∧
        ∀ offset, 1 ≤ offset → offset < 307 →
          (job.snapshot.image job.generation)[offset]? = some (t.store.byteAt (.bank job.target) offset)) ∧
    (∀ job, s.store.commit = .verifying job → failed (.verifyComplete false) job.target 4#3 (fun n => 307 ≤ n) ∧
      ∃ t, exec (.verifyComplete true) s = .next t ∧ others t job.target ∧ bank t job.target = .valid ∧
        t.store.current = some job.target ∧ t.store.generation = job.generation ∧ t.store.commit = .idle ∧
        t.store.lastResult = 1#3 ∧ t.deviceCondition = s.deviceCondition ∧
        t.attn.codes.store = ⟨1#8, bump8 s.attn.codes.store.count⟩ ∧
        t.store.byteAt (.bank job.target) 0 = 0x4E#8 ∧
        ∀ offset, 1 ≤ offset → offset < 1536 →
          t.store.byteAt (.bank job.target) offset = s.store.byteAt (.bank job.target) offset) ∧
    (∀ ok, ((∀ job, s.store.commit ≠ .erasing job) → exec (.eraseComplete ok) s = .next s.finish) ∧
      ((∀ job, s.store.commit ≠ .programming job) → exec (.programComplete ok) s = .next s.finish) ∧
      ((∀ job, s.store.commit ≠ .verifying job) → exec (.verifyComplete ok) s = .next s.finish))

/-- A bank holding the image of a legal configuration is valid, carries its generation, and loads back exactly that
configuration (R175, R178, R179). -/
def Obligations.CommittedImageLoadsBack : Prop :=
  ∀ (c : Settings) (g : Word) (st : Store) (k : Bank),
    (st.byteAt (.bank k) 0 = 0xFF#8 → st.judgeArea (.bank k) = none) ∧
    (valueLegal .deviceSettings c.deviceSettings = true → valueLegal .attnFloor c.attnFloor = true →
      (∀ r : Fin 4, valueLegal (.attnPriority r) c.attnPriority[r] = true) → c.autoArm.toNat ≤ 8 →
      (∀ p, portValueLegal 0 (c.ports.get p).portMode = true ∧ portValueLegal 1 (c.ports.get p).feedGuard = true ∧
        portValueLegal 2 (c.ports.get p).signalGuard = true ∧ portValueLegal 3 (c.ports.get p).safeAction = true ∧
        portValueLegal 4 (c.ports.get p).lineConfig = true ∧ portValueLegal 5 (c.ports.get p).quota = true ∧
        portValueLegal 7 (c.ports.get p).attnMask = true ∧ portValueLegal 11 (c.ports.get p).outputLen = true) →
      st.bytesAt (.bank k) 0 307 = c.image g →
      (c.image g).take 8 = [0x4E#8, 0x4C#8, 0x46#8, 0x53#8, hiByte g, loByte g, 0x01#8, 0x29#8] ∧
      st.generationOf (.bank k) = g ∧
      ∃ packets, st.judgeArea (.bank k) = some packets ∧ applyPackets Settings.factory packets = (c, []))

/-- STORE_LOAD_COMPLETE in STARTUP loads the newer valid bank and enters OPERATE or STANDBY by AUTO_OPERATE; elsewhere it
does nothing (log 2) (R176, R177, R178, R187, R170). -/
def Obligations.LoadEndsStartup : Prop :=
  ∀ s : State, s.Awake →
    (s.mode ≠ .startup → exec .storeLoadComplete s = .next s.finish) ∧
    (s.mode = .startup → ∃ t, exec .storeLoadComplete s = .next t ∧
      let validA := s.store.judgeArea (.bank .a) ≠ none
      let validB := s.store.judgeArea (.bank .b) ≠ none
      let genA := s.store.generationOf (.bank .a)
      let genB := s.store.generationOf (.bank .b)
      let newer := 1 ≤ (genB - genA).toNat ∧ (genB - genA).toNat ≤ 32767
      let packets : List Packet :=
        match t.store.current with | some k => (s.store.judgeArea (.bank k)).getD [] | none => []
      let marked (before after : CodeLatch) : Prop := after = ⟨1#8, bump8 before.count⟩
      (t.store.current = some .a ↔ validA ∧ (validB → ¬newer)) ∧ (t.store.current = some .b ↔ validB ∧ (validA → newer)) ∧
      (t.store.bankA = .valid ↔ validA) ∧ (t.store.bankA = .invalid ↔ ¬validA) ∧
      (t.store.bankB = .valid ↔ validB) ∧ (t.store.bankB = .invalid ↔ ¬validB) ∧
      t.store.generation = (match t.store.current with | some .a => genA | some .b => genB | none => 0#16) ∧
      (t.store.factoryValid = true ↔ s.store.judgeArea .factory ≠ none) ∧
      t.cfg = (applyPackets s.cfg packets).1 ∧
      t.deviceCondition =
        (if t.store.factoryValid then s.deviceCondition else s.deviceCondition ||| 0x0008#16) ∧
      t.mode = (if t.cfg.deviceSettings.getLsbD 0 then .operate else .standby) ∧ t.safeCause = .none ∧
      (∀ p o, (t.port p).out o =
        if t.mode = .operate then
          ((s.port p).out o).judged (outEnabled .operate (t.conf p) o) s.inhibit (t.overloaded p o) ((t.conf p).cutoff o)
        else (s.port p).out o) ∧
      t.ka =
        (if t.mode = .operate ∧ t.cfg.autoArm ≠ 0#4 then ⟨.armed, (t.cfg.autoArm - 1#4).setWidth 3, 0⟩ else s.ka) ∧
      (s.sup.hot = true → marked s.attn.codes.thermal t.attn.codes.thermal) ∧
      (s.sup.hot = false → t.attn.codes.thermal = s.attn.codes.thermal) ∧
      (s.sup.field ≠ .good → marked s.attn.codes.supply t.attn.codes.supply) ∧
      (s.sup.field = .good → t.attn.codes.supply = s.attn.codes.supply) ∧
      (t.mode = .operate → marked s.attn.codes.mode t.attn.codes.mode) ∧
      (t.mode = .standby → t.attn.codes.mode = s.attn.codes.mode) ∧
      t.sup = s.sup ∧ t.timeBase = s.timeBase ∧ t.link = s.link ∧ t.resetCause = s.resetCause)

/-- PORT_RESET puts one port into its reset state, re-evaluates its outputs, empties its latch, marks no source (log 19), and
reports the port before (R189, R123, R136, R164, R70). -/
def Obligations.PortResetActsOnItsPort : Prop :=
  ∀ (s : State) (f : FrameHead) (p : Fin 8), Issued s f 0x39#8 [BitVec.ofNat 8 p.val] →
    let c := s.conf p
    let fresh : Output := ⟨.disabled, 0#8, 0#16, none⟩
    let code : Byte :=
      match (s.engine p).state with
      | .detached => 0#8 | .waking => 1#8 | .bound => 2#8 | .paused => 3#8 | .lost => 4#8 | .held => 5#8
    let count : Byte := BitVec.ofNat 8 (s.port p).heldCount
    let permitted (t : State) : Prop := c.autoBind = true ∧ t.mayBind p
    let limited (t : State) : Prop := c.autoBind = true ∧ t.onlyLimited p
    ∃ t, exec (.portReset f [BitVec.ofNat 8 p.val]) s = .next t ∧ Replying t f kindIssue 0x00#8 [code, count] .nothing ∧
      (∀ o, (t.port p).out o = fresh.judged (outEnabled s.mode c o) s.inhibit (s.overloaded p o) (c.cutoff o)) ∧
      (permitted t → t.engine p = Engine.reset.woken c.rate) ∧ (limited t → t.engine p = { Engine.reset with due := true }) ∧
      (¬permitted t → ¬limited t → t.engine p = Engine.reset) ∧
      (t.port p).condition = 0#16 ∧ (t.port p).queue = [] ∧ (t.port p).inFlight = none ∧ (t.port p).done = [] ∧
      (t.port p).rx = ⟨decide (1 ≤ c.signalMode ∧ c.signalMode ≤ 4) && s.pins.raw.get p, none⟩ ∧
      t.attn.causes.get p = 0#10 ∧ t.attn.stack = s.attn.stack ∧
      (∀ src, src ≠ .port p → t.attn.latch src = s.attn.latch src) ∧
      t.journal.entries =
        (s.begun.journal.put s.cfg.journalConfig s.timeBase ⟨.device, false, BitVec.ofNat 8 p.val, 0x03#8, [code, count]⟩).entries ∧
      (∀ q, q ≠ p → t.port q = s.port q) ∧
      { t with ports := s.ports, link := s.link, journal := s.journal, attn := s.attn, atn := s.atn } = s

/-- In a reset interval everything is off and only input pins change (log 21); the events of one instant queue in the order
of R36 (logs 23 and 30) (R184, R24, R36, R65). -/
def Obligations.ResetIntervalTakesNoEvent : Prop :=
  (∀ (s : State) (line : ResetLine), ∃ t, exec (.resetInterval line) s = .next t ∧
    t.resetLine = some (if s.resetLine = some .power then .power else line) ∧ t.atn = false ∧ t.timeBase = 0#32 ∧
    t.attn = { s.attn with claim := none } ∧
    t.link = { s.link with phase := .ignoring } ∧
    (∀ p o, (t.port p).out o = { (s.port p).out o with state := .disabled, count := 0#8, timer := none }) ∧
    (∀ p, t.feedPin p = false ∧ t.signalPin p = .undriven) ∧
    t.misoRequest = 0x00#8 ∧ (∀ n, t.misoNext n = 0x00#8) ∧
    { t with
      resetLine := s.resetLine, atn := s.atn, timeBase := s.timeBase, attn := s.attn, link := s.link, ports := s.ports } = s) ∧
  (∀ (s : State) (c : Instr), s.resetLine ≠ none → (∀ line, c ≠ .resetInterval line) → (∀ x, c ≠ .deviceResetStep x) →
    ∃ t, exec c s = .next t ∧ { t with pins := s.pins } = s) ∧
  (∀ (s : State) (batch : List Instr),
    let reset (i : Instr) : Bool := match i with | .resetInterval _ => true | .deviceResetStep _ => true | _ => false
    let kept := if batch.any reset then batch.filter reset else batch
    ∃ joined, s.arrive batch = { s with pending := s.pending ++ joined } ∧
      joined.Pairwise (fun i j => rank i ≤ rank j) ∧
      ∀ r, joined.filter (fun i => rank i == r) = kept.filter (fun i => rank i == r)) ∧
  (let level (i : Instr) : Nat :=
    match i with
    | .resetInterval _ | .deviceResetStep _ => 1
    | .thermalRise | .thermalFall => 2
    | .fieldFallBelowLow | .fieldFallToHigh | .fieldRiseAboveHigh | .restoreSettleExpiry => 3
    | .overcurrentBegin .. | .overcurrentEnd .. | .rawLevelChange .. => 4
    | .kaWarning | .kaExpired | .trip .. | .restart .. | .settle .. | .debounceExpiry _ | .endOfTransmission _ | .hushSent _
    | .answerWindowExpiry _ | .turnaroundExpiry _ | .tick _ | .wakeSpacingExpiry _ | .rebindDelayExpiry _ | .confirmLapsed
    | .eraseComplete _ | .programComplete _ | .verifyComplete _ | .storeLoadComplete => 5
    | .parcelReception .. => 6
    | _ => 7
   (∀ i j, level i < level j → rank i < rank j) ∧
   ∀ (p q : Fin 8), p < q → ∀ (m n : Nat) (u v ok : Bool) (chars : List LineChar),
    let inTurn (l : List Instr) : Prop := l.Pairwise (fun i j => rank i < rank j)
    let timers (p : Fin 8) : List Instr :=
      [.trip p .feed, .trip p .signal, .debounceExpiry p, .endOfTransmission p, .answerWindowExpiry p, .turnaroundExpiry p, .tick p,
        .wakeSpacingExpiry p, .rebindDelayExpiry p]
    inTurn [.overcurrentBegin p ⟨.feed, m⟩, .overcurrentBegin p ⟨.signal, m⟩, .rawLevelChange p u, .overcurrentEnd q ⟨.feed, n⟩,
      .overcurrentEnd q ⟨.signal, n⟩, .rawLevelChange q v] ∧
    inTurn ([.kaWarning, .kaExpired] ++ timers p ++ timers q ++ [.confirmLapsed, .eraseComplete ok]) ∧
    rank .confirmLapsed < rank .storeLoadComplete ∧ inTurn [.parcelReception p chars, .parcelReception q chars] ∧
    ∀ o, rank (.overcurrentEnd p ⟨o, m⟩) = rank (.overcurrentBegin p ⟨o, n⟩) ∧ rank (.restart p o) = rank (.trip p o) ∧
      rank (.settle p o) = rank (.trip p o) ∧ rank (.hushSent p) = rank (.endOfTransmission p))

/-- The reset step (no interval: power-on, log 18) sets every block; a soft reset keeps Time Base and journal, straps and
heat as sampled (log 5) (R24, R185, R186, R188, R151, R164, R174). -/
def Obligations.DeviceResetStepSetsEveryBlock : Prop :=
  ∀ s : State,
    let blank (t : State) (straps : BitVec 3) (high hot : Bool) : Prop :=
      t.mode = .startup ∧ t.safeCause = .none ∧
      t.deviceCondition = 0x0010#16 ||| (if high then 0#16 else 1#16) ||| (if hot then 2#16 else 0#16) ∧
      t.resetLine = none ∧ t.cfg = Settings.factory ∧ t.ports = Eight.all Port.reset ∧
      t.sup = ⟨if high then .good else .low, hot, 0#8⟩ ∧ t.attn = Attention.reset ∧ t.atn = false ∧
      t.ka = ⟨.disarmed, 0#3, 0⟩ ∧ t.store.commit = .idle ∧ t.store.lastResult = 0#3 ∧
      t.store.current = s.store.current ∧ t.link.unit = straps ∧ t.link.rejects = 0#16 ∧ t.link.runts = 0#16 ∧
      t.link.confirm = none ∧ t.link.capture = ⟨false, false, 0#3, 0#8, 0#8, 0#16, 0#16⟩ ∧ t.link.lastTag = 0#8 ∧
      t.link.lastKind = 0#3 ∧ t.link.replyCut = false ∧ t.pending = s.pending
    (∀ x : Sample, ∃ t, exec (.deviceResetStep x) s = .next t ∧ blank t x.straps x.vfieldHigh x.dieAbove140 ∧
      t.timeBase = 0#32 ∧
      (let cause : BitVec 2 := if s.resetLine = some .pin then 2#2 else 1#2
       t.resetCause = cause ∧ t.link.phase = (if x.inFrame then .ignoring else .idle) ∧
       t.journal = ⟨[⟨0#16, 0#32, 9#8, 0x01#8, 0#8, [cause.setWidth 8]⟩], 1#16, 0#8, 0#16, none⟩)) ∧
    (∀ f : FrameHead, Issued s f 0x01#8 [0x38#8] → (∃ tag, s.link.confirm = some ⟨0x38#8, [], tag⟩) →
      ∃ (t : State) (straps : BitVec 3) (hot : Bool), exec (.confirm f [0x38#8]) s = .next t ∧ (s.sup.hot = true → hot = true) ∧
        blank t straps s.pins.vfieldHigh hot ∧ t.timeBase = s.timeBase ∧ t.resetCause = 3#2 ∧
        t.link.phase = .replying ⟨0x00#8, f.tag, []⟩ false .nothing ∧
        t.journal.nextSeq = s.journal.nextSeq + 1#16 ∧ t.journal.refusals = 0#8 ∧
        (let mode : Byte := match s.mode with | .startup => 0#8 | .standby => 1#8 | .operate => 2#8 | .safeHold => 3#8
         let entry : Entry := ⟨s.journal.nextSeq, s.timeBase, 9#8, 0x02#8, s.journal.refusals, [mode]⟩
         (s.journal.entries.length < 32 →
           t.journal.entries = s.journal.entries ++ [entry] ∧ t.journal.lost = s.journal.lost) ∧
         (32 ≤ s.journal.entries.length →
           t.journal.entries = s.journal.entries.tail ++ [entry] ∧ t.journal.lost = bump16 s.journal.lost)))

/-- Every step keeps the settings array in canonical form, and a bank being programmed or verified without undefined bytes
(R180, R181, R179). -/
def Obligations.ArrayKeepsItsForm : Prop :=
  ∀ s t : State, s.ArrayInForm → step s = .next t → t.ArrayInForm

/-- Every step keeps the journal at most 32 entries with consecutive SEQ values ending one below JOURNAL_NEXT_SEQ (R138,
R140, R141, R145, R146, R148). -/
def Obligations.JournalKeepsItsOrder : Prop :=
  ∀ s t : State, s.JournalInOrder → step s = .next t → t.JournalInOrder

/-- Every step keeps the in-service stack strictly rising, a waiting claim above it, and ATN asserted exactly while a source
is deliverable (R155, R156, R158, R159, R164, R184). -/
def Obligations.AttentionKeepsItsOrder : Prop :=
  ∀ s t : State, s.AttentionInOrder → step s = .next t → t.AttentionInOrder

/-- Every step keeps mode, SAFE_CAUSE and keepalive in their table, and every output fit for the mode and the inhibit line
(R25, R27, R48, R51, R57, R60, R61, R75, R165, R170). -/
def Obligations.ModesAndOutputsKeepInOrder : Prop :=
  ∀ s t : State, s.ModesInOrder → step s = .next t → t.ModesInOrder

/-- Every step keeps engines, exchanges, timers and pool slots fit for each other: no slot held twice, 32 slots in all (R101,
R107, R113, R120, R125, R127, R26, R27). -/
def Obligations.EnginesKeepInOrder : Prop :=
  ∀ s t : State, s.EnginesInOrder → step s = .next t → t.EnginesInOrder

/-- The state after reset meets every invariant: array, journal, attention, modes and outputs, engines and pool (R138, R159,
R25, R125, R185). -/
def Obligations.ResetMeetsEveryInvariant : Prop :=
  State.reset.ArrayInForm ∧ State.reset.JournalInOrder ∧ State.reset.AttentionInOrder ∧ State.reset.ModesInOrder ∧
    State.reset.EnginesInOrder
end

