-- ==== Sys2Proof/Laws/Array.lean ====
section
/-! SUPPORT. The laws of the settings array: what a write, a run of writes and an erasure leave at each address, and that each
keeps the canonical form. -/

namespace Sys2Proof.Machine

/-! ### Reading what was written -/

theorem cellRead_write_other (cells : List Host.Cell) (a b : Nat) (v : Byte) (h : b ≠ a) :
    cellRead (cellWrite cells a v) b = cellRead cells b := by
  induction cells with
  | nil => simp only [cellWrite]; split <;> simp [cellRead, Ne.symm h]
  | cons c rest ih =>
    obtain ⟨x, w⟩ := c
    simp only [cellWrite]
    split
    · split <;> simp [cellRead, Ne.symm h]
    · split
      · rename_i hx; subst hx
        split <;> simp [cellRead, Ne.symm h]
      · simp only [cellRead, ih]

/-- Nothing is listed below the least address of a canonical list. -/
theorem cellRead_below {least : Nat} {cells : List Host.Cell} (h : cellsWf least cells = true) {a : Nat} (ha : a < least) :
    cellRead cells a = erasedByte := by
  induction cells generalizing least with
  | nil => rfl
  | cons c rest ih =>
    obtain ⟨x, w⟩ := c
    simp only [cellsWf, Bool.and_eq_true, decide_eq_true_eq] at h
    have hx : x ≠ a := by omega
    simp only [cellRead, if_neg hx]
    exact ih h.2 (by omega)

theorem cellRead_write_self {least : Nat} {cells : List Host.Cell} (h : cellsWf least cells = true) (a : Nat) (v : Byte) :
    cellRead (cellWrite cells a v) a = v := by
  induction cells generalizing least with
  | nil => simp only [cellWrite]; split <;> simp_all [cellRead]
  | cons c rest ih =>
    obtain ⟨x, w⟩ := c
    simp only [cellsWf, Bool.and_eq_true, decide_eq_true_eq] at h
    simp only [cellWrite]
    split
    · rename_i hlt
      split
      · rename_i hv
        have hx : x ≠ a := by omega
        simp only [cellRead, if_neg hx, hv]
        exact cellRead_below h.2 (by omega)
      · simp [cellRead]
    · split
      · rename_i hx; subst hx
        split
        · rename_i hv; rw [hv]; exact cellRead_below h.2 (by omega)
        · simp [cellRead]
      · rename_i hx
        simp only [cellRead, if_neg hx]
        exact ih h.2

theorem cellRead_erase (cells : List Host.Cell) (base size a : Nat) :
    cellRead (cellsErase cells base size) a =
      if base ≤ a ∧ a < base + size then erasedByte else cellRead cells a := by
  induction cells with
  | nil => simp [cellsErase, cellRead]
  | cons c rest ih =>
    obtain ⟨x, w⟩ := c
    simp only [cellsErase, List.filter_cons] at ih ⊢
    by_cases hx : base ≤ x ∧ x < base + size
    · rw [if_neg (by simp [hx.1, hx.2]), ih]
      by_cases ha : x = a
      · subst ha; simp [hx.1, hx.2]
      · simp only [cellRead, if_neg ha]
    · rw [if_pos (by simp; omega)]
      simp only [cellRead]
      by_cases ha : x = a
      · subst ha; simp [hx]
      · simp only [if_neg ha]; exact ih

/-! ### The canonical form is kept -/

theorem cellsWf_mono {m n : Nat} (h : m ≤ n) {cells : List Host.Cell} (hw : cellsWf n cells = true) : cellsWf m cells = true := by
  cases cells with
  | nil => rfl
  | cons c rest =>
    obtain ⟨x, w⟩ := c
    simp only [cellsWf, Bool.and_eq_true, decide_eq_true_eq] at hw ⊢
    exact ⟨⟨⟨by omega, hw.1.1.2⟩, hw.1.2⟩, hw.2⟩

theorem cellWrite_wf {least : Nat} {cells : List Host.Cell} (h : cellsWf least cells = true) {a : Nat} (v : Byte) (hl : least ≤ a)
    (ha : a < arraySize) : cellsWf least (cellWrite cells a v) = true := by
  induction cells generalizing least with
  | nil =>
    simp only [cellWrite]
    split
    · rfl
    · simp_all [cellsWf]
  | cons c rest ih =>
    obtain ⟨x, w⟩ := c
    have hc := h
    simp only [cellsWf, Bool.and_eq_true, decide_eq_true_eq] at hc
    simp only [cellWrite]
    split
    · split
      · exact h
      · simp only [cellsWf, Bool.and_eq_true, decide_eq_true_eq, bne_iff_ne, ne_eq]
        exact ⟨⟨⟨hl, ha⟩, by assumption⟩, ⟨⟨by omega, hc.1.1.2⟩, by simpa using hc.1.2⟩, hc.2⟩
    · split
      · rename_i hx; subst hx
        split
        · exact cellsWf_mono (by omega) hc.2
        · simp only [cellsWf, Bool.and_eq_true, decide_eq_true_eq, bne_iff_ne, ne_eq]
          exact ⟨⟨⟨hl, ha⟩, by assumption⟩, hc.2⟩
      · simp only [cellsWf, Bool.and_eq_true, decide_eq_true_eq]
        exact ⟨hc.1, ih hc.2 (by omega)⟩

theorem cellsWrite_wf {cells : List Host.Cell} (h : Memory.wf cells = true) (a : Nat) (bytes : List Byte)
    (hb : a + bytes.length ≤ arraySize) : Memory.wf (cellsWrite cells a bytes) = true := by
  induction bytes generalizing cells a with
  | nil => exact h
  | cons v rest ih =>
    simp only [List.length_cons] at hb
    exact ih (cellWrite_wf h v (Nat.zero_le a) (by omega)) (a + 1) (by omega)

theorem cellsErase_wf' {least : Nat} {cells : List Host.Cell} (h : cellsWf least cells = true) (base size : Nat) :
    cellsWf least (cellsErase cells base size) = true := by
  induction cells generalizing least with
  | nil => rfl
  | cons c rest ih =>
    obtain ⟨x, w⟩ := c
    simp only [cellsWf, Bool.and_eq_true, decide_eq_true_eq] at h
    simp only [cellsErase, List.filter_cons] at ih ⊢
    split
    · simp only [cellsWf, Bool.and_eq_true, decide_eq_true_eq]
      exact ⟨h.1, ih h.2⟩
    · exact cellsWf_mono (by omega) (ih h.2)

theorem cellsErase_wf {cells : List Host.Cell} (h : Memory.wf cells = true) (base size : Nat) :
    Memory.wf (cellsErase cells base size) = true := cellsErase_wf' h base size

/-- Bytes put at consecutive addresses are read back there, and nothing else changes. -/
theorem cellRead_cellsWrite {cells : List Host.Cell} (h : Memory.wf cells = true) (a : Nat) (bytes : List Byte)
    (hb : a + bytes.length ≤ arraySize) (b : Nat) :
    cellRead (cellsWrite cells a bytes) b = if a ≤ b then (bytes[b - a]?).getD (cellRead cells b) else cellRead cells b := by
  induction bytes generalizing cells a with
  | nil => simp [cellsWrite]
  | cons v rest ih =>
    simp only [List.length_cons] at hb
    simp only [cellsWrite]
    rw [ih (cellWrite_wf h v (Nat.zero_le a) (by omega)) (a + 1) (by omega)]
    by_cases hlt : b < a
    · rw [if_neg (by omega), if_neg (by omega), cellRead_write_other _ _ _ _ (by omega)]
    · by_cases heq : b = a
      · subst heq
        rw [if_neg (by omega), if_pos (Nat.le_refl b), cellRead_write_self h, Nat.sub_self]
        simp
      · rw [if_pos (by omega), if_pos (by omega), cellRead_write_other _ _ _ _ heq]
        have : b - a = (b - (a + 1)) + 1 := by omega
        rw [this, List.getElem?_cons_succ]

/-! ### The operations of the store -/

/-- The array of the state after reset is in canonical form. -/
theorem reset_array_wf : Memory.wf State.reset.store.cells = true := rfl

/-- Every area lies inside the array. -/
theorem areaBase_add_size (a : Area) : areaBase a + areaSize a ≤ arraySize := by
  match a with
  | .factory | .bank .a | .bank .b => decide

/-- Two areas share no address. -/
theorem areaBase_disjoint {a b : Area} (h : a ≠ b) {i j : Nat} (hi : i < areaSize a) (hj : j < areaSize b) :
    areaBase a + i ≠ areaBase b + j := by
  match a, b with
  | .factory, .factory | .bank .a, .bank .a | .bank .b, .bank .b => exact absurd rfl h
  | .factory, .bank .a | .factory, .bank .b | .bank .a, .factory | .bank .a, .bank .b | .bank .b, .factory
  | .bank .b, .bank .a => simp only [areaBase, areaSize, factorySize, bankSize] at *; omega

@[simp] theorem Store.setLeft_cells (st : Store) (k : Bank) (l : Option LeftOver) : (st.setLeft k l).cells = st.cells := by
  cases k <;> rfl

@[simp] theorem Store.setBank_cells (st : Store) (k : Bank) (x : BankState) : (st.setBank k x).cells = st.cells := by
  cases k <;> rfl

@[simp] theorem Store.setBank_left (st : Store) (k : Bank) (x : BankState) (a : Area) : (st.setBank k x).left a = st.left a := by
  match k, a with
  | .a, .factory | .a, .bank .a | .a, .bank .b | .b, .factory | .b, .bank .a | .b, .bank .b => rfl

theorem Store.setLeft_left (st : Store) (k : Bank) (l : Option LeftOver) (a : Area) :
    (st.setLeft k l).left a = if a = .bank k then l else st.left a := by
  match k, a with
  | .a, .factory | .a, .bank .a | .a, .bank .b | .b, .factory | .b, .bank .a | .b, .bank .b => rfl

theorem Store.program_wf {st : Store} (h : Memory.wf st.cells = true) (k : Bank) (offset : Nat) (bytes : List Byte)
    (hb : offset + bytes.length ≤ bankSize) : Memory.wf (st.program k offset bytes).cells = true := by
  apply cellsWrite_wf h
  have := areaBase_add_size (.bank k)
  simp only [areaSize] at this
  omega

theorem Store.eraseBank_wf {st : Store} (h : Memory.wf st.cells = true) (k : Bank) : Memory.wf (st.eraseBank k).cells = true :=
  cellsErase_wf h _ _

theorem Store.loseSignature_wf {st : Store} (h : Memory.wf st.cells = true) (k : Bank) :
    Memory.wf (st.loseSignature k).cells = true := by
  unfold Store.loseSignature
  apply Store.program_wf
  · split <;> simp [h]
  · simp [bankSize]

/-- An erased bank reads as erased, and no other area changes (R180). -/
theorem Store.byteAt_eraseBank (st : Store) (k : Bank) (a : Area) (offset : Nat) (h : offset < areaSize a) :
    (st.eraseBank k).byteAt a offset = if a = .bank k then erasedByte else st.byteAt a offset := by
  simp only [Store.byteAt, Store.eraseBank]
  have hl : ({ st.setLeft k none with cells := cellsErase st.cells (areaBase (.bank k)) bankSize } : Store).left a
      = (st.setLeft k none).left a := by
    match a with
    | .factory | .bank .a | .bank .b => rfl
  rw [hl, Store.setLeft_left]
  by_cases ha : a = .bank k
  · subst ha
    rw [if_pos rfl, if_pos rfl]
    simp only [cellRead_erase, areaSize] at h ⊢
    rw [if_pos (by omega)]
  · rw [if_neg ha, if_neg ha]
    have hd : ¬(areaBase (.bank k) ≤ areaBase a + offset ∧ areaBase a + offset < areaBase (.bank k) + bankSize) := by
      intro hc
      have := areaBase_disjoint (a := a) (b := .bank k) ha h (j := areaBase a + offset - areaBase (.bank k))
        (by simp only [areaSize]; omega)
      omega
    simp only [cellRead_erase, if_neg hd]

/-- Programming a bank changes no other area. -/
theorem Store.byteAt_program_other (st : Store) (k : Bank) (offset : Nat) (bytes : List Byte) (hb : offset + bytes.length ≤ bankSize)
    (a : Area) (ha : a ≠ .bank k) (i : Nat) (hi : i < areaSize a) : (st.program k offset bytes).byteAt a i = st.byteAt a i := by
  have hl : (st.program k offset bytes).left a = st.left a := by
    match a with
    | .factory | .bank .a | .bank .b => rfl
  have hc : cellRead (st.program k offset bytes).cells (areaBase a + i) = cellRead st.cells (areaBase a + i) := by
    simp only [Store.program]
    have key : ∀ (bytes : List Byte) (cells : List Host.Cell) (o : Nat), o + bytes.length ≤ bankSize →
        cellRead (cellsWrite cells (areaBase (.bank k) + o) bytes) (areaBase a + i) = cellRead cells (areaBase a + i) := by
      intro bytes
      induction bytes with
      | nil => intro cells o _; rfl
      | cons v rest ih =>
        intro cells o h
        simp only [List.length_cons] at h
        simp only [cellsWrite]
        rw [Nat.add_assoc, ih _ (o + 1) (by omega)]
        exact cellRead_write_other _ _ _ _ (areaBase_disjoint ha hi (by simp only [areaSize]; omega))
    exact key bytes st.cells offset hb
  simp only [Store.byteAt, hl, hc]

/-- Programming a bank whose bytes are all known puts the bytes there and keeps the others (R180). -/
theorem Store.byteAt_program (st : Store) (h : Memory.wf st.cells = true) (k : Bank) (hk : st.left (.bank k) = none) (offset : Nat)
    (bytes : List Byte) (hb : offset + bytes.length ≤ bankSize) (i : Nat) :
    (st.program k offset bytes).byteAt (.bank k) i =
      if offset ≤ i then (bytes[i - offset]?).getD (st.byteAt (.bank k) i) else st.byteAt (.bank k) i := by
  have hl : (st.program k offset bytes).left (.bank k) = none := by
    rw [← hk]; cases k <;> rfl
  have hsize := areaBase_add_size (.bank k)
  simp only [areaSize] at hsize
  simp only [Store.byteAt, hl, hk]
  simp only [Store.program]
  rw [cellRead_cellsWrite h _ _ (by omega)]
  by_cases ho : offset ≤ i
  · rw [if_pos (by omega), if_pos ho]
    have : areaBase (.bank k) + i - (areaBase (.bank k) + offset) = i - offset := by omega
    rw [this]
  · rw [if_neg (by omega), if_neg ho]

/-- A byte that no failed or abandoned phase touched reads as the array's cell does (R180). -/
theorem Store.byteAt_untouched (st : Store) (a : Area) (offset : Nat)
    (h : ∀ l, st.left a = some l → offset < l.first ∨ l.stop ≤ offset) :
    st.byteAt a offset = cellRead st.cells (areaBase a + offset) := by
  unfold Store.byteAt
  split
  · rfl
  · rename_i l hl
    have := h l hl
    rw [if_neg]
    simp only [Bool.and_eq_true, decide_eq_true_eq]
    omega

end Sys2Proof.Machine
end

