-- ==== Sys2Proof/Laws/Bits.lean ====
section
/-! SUPPORT. Registers and their two bytes, and characters on the tether line. -/

namespace Sys2Proof.Machine

/-- A register put together from its own two bytes. -/
@[simp] theorem wordOf_bytes (w : Word) : wordOf (hiByte w) (loByte w) = w := by
  apply BitVec.eq_of_toNat_eq
  have h := w.isLt
  simp only [wordOf, hiByte, loByte, BitVec.toNat_append, BitVec.extractLsb'_toNat]
  rw [← Nat.shiftLeft_add_eq_or_of_lt (Nat.mod_lt _ (by decide))]
  simp only [Nat.shiftLeft_eq, Nat.shiftRight_eq_div_pow]
  omega

/-- The two bytes of a register put together from two bytes. -/
@[simp] theorem wordBytes_wordOf (h l : Byte) : wordBytes (wordOf h l) = [h, l] := by
  unfold wordBytes hiByte loByte wordOf
  have hh := h.isLt
  have hl := l.isLt
  congr 1
  · apply BitVec.eq_of_toNat_eq
    simp only [BitVec.toNat_append, BitVec.extractLsb'_toNat]
    rw [← Nat.shiftLeft_add_eq_or_of_lt hl]
    simp only [Nat.shiftLeft_eq, Nat.shiftRight_eq_div_pow]
    omega
  · congr 1
    apply BitVec.eq_of_toNat_eq
    simp only [BitVec.toNat_append, BitVec.extractLsb'_toNat]
    rw [← Nat.shiftLeft_add_eq_or_of_lt hl]
    simp only [Nat.shiftLeft_eq, Nat.shiftRight_eq_div_pow]
    omega

/-- A character as the controller sends it carries its data. -/
@[simp] theorem sentChar_data (b : Byte) : (sentChar b).data = b := rfl

/-- A character as the controller sends it is free of parity and framing errors (R85). -/
@[simp] theorem charGood_sentChar (b : Byte) : charGood (sentChar b) = true := by
  have h : ∀ n : Fin 256, charGood (sentChar (BitVec.ofNat 8 n.val)) = true := by decide +kernel
  have hb := h ⟨b.toNat, b.isLt⟩
  simpa using hb

/-- A character takes eleven bit times (R85). -/
@[simp] theorem wireBits_length (c : LineChar) : (wireBits c).length = charBits := rfl

/-- Bytes as the controller sends them carry their data. -/
@[simp] theorem map_sentChar_data (bytes : List Byte) : (bytes.map sentChar).map LineChar.data = bytes := by
  simp [Function.comp_def]

end Sys2Proof.Machine
end

