-- ==== Sys2Proof/Laws/Eight.lean ====
section
/-! SUPPORT. The laws of the eight-fold container: reading after a replacement, and equality port by port. -/

namespace Sys2Proof

variable {α β : Type}

@[simp] theorem Eight.get_set_self (v : Eight α) (p : Fin 8) (a : α) : (v.set p a).get p = a := by
  match p with
  | 0 => rfl
  | 1 => rfl
  | 2 => rfl
  | 3 => rfl
  | 4 => rfl
  | 5 => rfl
  | 6 => rfl
  | 7 => rfl

theorem Eight.get_set_of_ne (v : Eight α) {p q : Fin 8} (a : α) (h : q ≠ p) : (v.set p a).get q = v.get q := by
  match p, q with
  | 0, 0 | 1, 1 | 2, 2 | 3, 3 | 4, 4 | 5, 5 | 6, 6 | 7, 7 => exact absurd rfl h
  | 0, 1 | 0, 2 | 0, 3 | 0, 4 | 0, 5 | 0, 6 | 0, 7 => rfl
  | 1, 0 | 1, 2 | 1, 3 | 1, 4 | 1, 5 | 1, 6 | 1, 7 => rfl
  | 2, 0 | 2, 1 | 2, 3 | 2, 4 | 2, 5 | 2, 6 | 2, 7 => rfl
  | 3, 0 | 3, 1 | 3, 2 | 3, 4 | 3, 5 | 3, 6 | 3, 7 => rfl
  | 4, 0 | 4, 1 | 4, 2 | 4, 3 | 4, 5 | 4, 6 | 4, 7 => rfl
  | 5, 0 | 5, 1 | 5, 2 | 5, 3 | 5, 4 | 5, 6 | 5, 7 => rfl
  | 6, 0 | 6, 1 | 6, 2 | 6, 3 | 6, 4 | 6, 5 | 6, 7 => rfl
  | 7, 0 | 7, 1 | 7, 2 | 7, 3 | 7, 4 | 7, 5 | 7, 6 => rfl

theorem Eight.get_set (v : Eight α) (p q : Fin 8) (a : α) : (v.set p a).get q = if q = p then a else v.get q := by
  by_cases h : q = p
  · subst h; rw [if_pos rfl, Eight.get_set_self]
  · rw [if_neg h, Eight.get_set_of_ne v a h]

@[simp] theorem Eight.get_all (a : α) (p : Fin 8) : (Eight.all a).get p = a := by
  match p with
  | 0 | 1 | 2 | 3 | 4 | 5 | 6 | 7 => rfl

@[simp] theorem Eight.get_map (f : α → β) (v : Eight α) (p : Fin 8) : (v.map f).get p = f (v.get p) := by
  match p with
  | 0 | 1 | 2 | 3 | 4 | 5 | 6 | 7 => rfl

@[simp] theorem Eight.get_zipWith {γ : Type} (f : α → β → γ) (v : Eight α) (w : Eight β) (p : Fin 8) :
    (v.zipWith f w).get p = f (v.get p) (w.get p) := by
  match p with
  | 0 | 1 | 2 | 3 | 4 | 5 | 6 | 7 => rfl

theorem Eight.ext_get {v w : Eight α} (h : ∀ p, v.get p = w.get p) : v = w := by
  cases v; cases w
  have h0 := h 0; have h1 := h 1; have h2 := h 2; have h3 := h 3
  have h4 := h 4; have h5 := h 5; have h6 := h 6; have h7 := h 7
  simp only [Eight.get] at h0 h1 h2 h3 h4 h5 h6 h7
  subst h0 h1 h2 h3 h4 h5 h6 h7
  rfl

@[simp] theorem Eight.set_get (v : Eight α) (p : Fin 8) : v.set p (v.get p) = v := by
  match p with
  | 0 | 1 | 2 | 3 | 4 | 5 | 6 | 7 => rfl

@[simp] theorem Eight.set_set (v : Eight α) (p : Fin 8) (a b : α) : (v.set p a).set p b = v.set p b := by
  match p with
  | 0 | 1 | 2 | 3 | 4 | 5 | 6 | 7 => rfl

end Sys2Proof
end

