-- ==== Sys2Proof/Laws/State.lean ====
section
/-! SUPPORT. One lemma for each field of State and each of the plain updates: what the update leaves alone, and what it sets. -/

namespace Sys2Proof.Machine

@[simp] theorem State.modPort_mode (s : State) (p : Fin 8) (f : Port → Port) : (s.modPort p f).mode = s.mode := rfl
@[simp] theorem State.modPort_safeCause (s : State) (p : Fin 8) (f : Port → Port) : (s.modPort p f).safeCause = s.safeCause := rfl
@[simp] theorem State.modPort_deviceCondition (s : State) (p : Fin 8) (f : Port → Port) : (s.modPort p f).deviceCondition = s.deviceCondition := rfl
@[simp] theorem State.modPort_resetCause (s : State) (p : Fin 8) (f : Port → Port) : (s.modPort p f).resetCause = s.resetCause := rfl
@[simp] theorem State.modPort_resetLine (s : State) (p : Fin 8) (f : Port → Port) : (s.modPort p f).resetLine = s.resetLine := rfl
@[simp] theorem State.modPort_cfg (s : State) (p : Fin 8) (f : Port → Port) : (s.modPort p f).cfg = s.cfg := rfl
@[simp] theorem State.modPort_link (s : State) (p : Fin 8) (f : Port → Port) : (s.modPort p f).link = s.link := rfl
@[simp] theorem State.modPort_ports (s : State) (p : Fin 8) (f : Port → Port) : (s.modPort p f).ports = s.ports.set p (f (s.ports.get p)) := rfl
@[simp] theorem State.modPort_sup (s : State) (p : Fin 8) (f : Port → Port) : (s.modPort p f).sup = s.sup := rfl
@[simp] theorem State.modPort_journal (s : State) (p : Fin 8) (f : Port → Port) : (s.modPort p f).journal = s.journal := rfl
@[simp] theorem State.modPort_timeBase (s : State) (p : Fin 8) (f : Port → Port) : (s.modPort p f).timeBase = s.timeBase := rfl
@[simp] theorem State.modPort_attn (s : State) (p : Fin 8) (f : Port → Port) : (s.modPort p f).attn = s.attn := rfl
@[simp] theorem State.modPort_atn (s : State) (p : Fin 8) (f : Port → Port) : (s.modPort p f).atn = s.atn := rfl
@[simp] theorem State.modPort_ka (s : State) (p : Fin 8) (f : Port → Port) : (s.modPort p f).ka = s.ka := rfl
@[simp] theorem State.modPort_store (s : State) (p : Fin 8) (f : Port → Port) : (s.modPort p f).store = s.store := rfl
@[simp] theorem State.modPort_pins (s : State) (p : Fin 8) (f : Port → Port) : (s.modPort p f).pins = s.pins := rfl
@[simp] theorem State.modPort_free (s : State) (p : Fin 8) (f : Port → Port) : (s.modPort p f).free = s.free := rfl
@[simp] theorem State.modPort_pending (s : State) (p : Fin 8) (f : Port → Port) : (s.modPort p f).pending = s.pending := rfl

@[simp] theorem State.modEngine_mode (s : State) (p : Fin 8) (f : Engine → Engine) : (s.modEngine p f).mode = s.mode := rfl
@[simp] theorem State.modEngine_safeCause (s : State) (p : Fin 8) (f : Engine → Engine) : (s.modEngine p f).safeCause = s.safeCause := rfl
@[simp] theorem State.modEngine_deviceCondition (s : State) (p : Fin 8) (f : Engine → Engine) : (s.modEngine p f).deviceCondition = s.deviceCondition := rfl
@[simp] theorem State.modEngine_resetCause (s : State) (p : Fin 8) (f : Engine → Engine) : (s.modEngine p f).resetCause = s.resetCause := rfl
@[simp] theorem State.modEngine_resetLine (s : State) (p : Fin 8) (f : Engine → Engine) : (s.modEngine p f).resetLine = s.resetLine := rfl
@[simp] theorem State.modEngine_cfg (s : State) (p : Fin 8) (f : Engine → Engine) : (s.modEngine p f).cfg = s.cfg := rfl
@[simp] theorem State.modEngine_link (s : State) (p : Fin 8) (f : Engine → Engine) : (s.modEngine p f).link = s.link := rfl
@[simp] theorem State.modEngine_sup (s : State) (p : Fin 8) (f : Engine → Engine) : (s.modEngine p f).sup = s.sup := rfl
@[simp] theorem State.modEngine_journal (s : State) (p : Fin 8) (f : Engine → Engine) : (s.modEngine p f).journal = s.journal := rfl
@[simp] theorem State.modEngine_timeBase (s : State) (p : Fin 8) (f : Engine → Engine) : (s.modEngine p f).timeBase = s.timeBase := rfl
@[simp] theorem State.modEngine_attn (s : State) (p : Fin 8) (f : Engine → Engine) : (s.modEngine p f).attn = s.attn := rfl
@[simp] theorem State.modEngine_atn (s : State) (p : Fin 8) (f : Engine → Engine) : (s.modEngine p f).atn = s.atn := rfl
@[simp] theorem State.modEngine_ka (s : State) (p : Fin 8) (f : Engine → Engine) : (s.modEngine p f).ka = s.ka := rfl
@[simp] theorem State.modEngine_store (s : State) (p : Fin 8) (f : Engine → Engine) : (s.modEngine p f).store = s.store := rfl
@[simp] theorem State.modEngine_pins (s : State) (p : Fin 8) (f : Engine → Engine) : (s.modEngine p f).pins = s.pins := rfl
@[simp] theorem State.modEngine_free (s : State) (p : Fin 8) (f : Engine → Engine) : (s.modEngine p f).free = s.free := rfl
@[simp] theorem State.modEngine_pending (s : State) (p : Fin 8) (f : Engine → Engine) : (s.modEngine p f).pending = s.pending := rfl

@[simp] theorem State.modLine_mode (s : State) (p : Fin 8) (f : LineState → LineState) : (s.modLine p f).mode = s.mode := rfl
@[simp] theorem State.modLine_safeCause (s : State) (p : Fin 8) (f : LineState → LineState) : (s.modLine p f).safeCause = s.safeCause := rfl
@[simp] theorem State.modLine_deviceCondition (s : State) (p : Fin 8) (f : LineState → LineState) : (s.modLine p f).deviceCondition = s.deviceCondition := rfl
@[simp] theorem State.modLine_resetCause (s : State) (p : Fin 8) (f : LineState → LineState) : (s.modLine p f).resetCause = s.resetCause := rfl
@[simp] theorem State.modLine_resetLine (s : State) (p : Fin 8) (f : LineState → LineState) : (s.modLine p f).resetLine = s.resetLine := rfl
@[simp] theorem State.modLine_cfg (s : State) (p : Fin 8) (f : LineState → LineState) : (s.modLine p f).cfg = s.cfg := rfl
@[simp] theorem State.modLine_link (s : State) (p : Fin 8) (f : LineState → LineState) : (s.modLine p f).link = s.link := rfl
@[simp] theorem State.modLine_sup (s : State) (p : Fin 8) (f : LineState → LineState) : (s.modLine p f).sup = s.sup := rfl
@[simp] theorem State.modLine_journal (s : State) (p : Fin 8) (f : LineState → LineState) : (s.modLine p f).journal = s.journal := rfl
@[simp] theorem State.modLine_timeBase (s : State) (p : Fin 8) (f : LineState → LineState) : (s.modLine p f).timeBase = s.timeBase := rfl
@[simp] theorem State.modLine_attn (s : State) (p : Fin 8) (f : LineState → LineState) : (s.modLine p f).attn = s.attn := rfl
@[simp] theorem State.modLine_atn (s : State) (p : Fin 8) (f : LineState → LineState) : (s.modLine p f).atn = s.atn := rfl
@[simp] theorem State.modLine_ka (s : State) (p : Fin 8) (f : LineState → LineState) : (s.modLine p f).ka = s.ka := rfl
@[simp] theorem State.modLine_store (s : State) (p : Fin 8) (f : LineState → LineState) : (s.modLine p f).store = s.store := rfl
@[simp] theorem State.modLine_pins (s : State) (p : Fin 8) (f : LineState → LineState) : (s.modLine p f).pins = s.pins := rfl
@[simp] theorem State.modLine_free (s : State) (p : Fin 8) (f : LineState → LineState) : (s.modLine p f).free = s.free := rfl
@[simp] theorem State.modLine_pending (s : State) (p : Fin 8) (f : LineState → LineState) : (s.modLine p f).pending = s.pending := rfl

@[simp] theorem State.setOut_mode (s : State) (p : Fin 8) (o : Out) (x : Output) : (s.setOut p o x).mode = s.mode := rfl
@[simp] theorem State.setOut_safeCause (s : State) (p : Fin 8) (o : Out) (x : Output) : (s.setOut p o x).safeCause = s.safeCause := rfl
@[simp] theorem State.setOut_deviceCondition (s : State) (p : Fin 8) (o : Out) (x : Output) : (s.setOut p o x).deviceCondition = s.deviceCondition := rfl
@[simp] theorem State.setOut_resetCause (s : State) (p : Fin 8) (o : Out) (x : Output) : (s.setOut p o x).resetCause = s.resetCause := rfl
@[simp] theorem State.setOut_resetLine (s : State) (p : Fin 8) (o : Out) (x : Output) : (s.setOut p o x).resetLine = s.resetLine := rfl
@[simp] theorem State.setOut_cfg (s : State) (p : Fin 8) (o : Out) (x : Output) : (s.setOut p o x).cfg = s.cfg := rfl
@[simp] theorem State.setOut_link (s : State) (p : Fin 8) (o : Out) (x : Output) : (s.setOut p o x).link = s.link := rfl
@[simp] theorem State.setOut_sup (s : State) (p : Fin 8) (o : Out) (x : Output) : (s.setOut p o x).sup = s.sup := rfl
@[simp] theorem State.setOut_journal (s : State) (p : Fin 8) (o : Out) (x : Output) : (s.setOut p o x).journal = s.journal := rfl
@[simp] theorem State.setOut_timeBase (s : State) (p : Fin 8) (o : Out) (x : Output) : (s.setOut p o x).timeBase = s.timeBase := rfl
@[simp] theorem State.setOut_attn (s : State) (p : Fin 8) (o : Out) (x : Output) : (s.setOut p o x).attn = s.attn := rfl
@[simp] theorem State.setOut_atn (s : State) (p : Fin 8) (o : Out) (x : Output) : (s.setOut p o x).atn = s.atn := rfl
@[simp] theorem State.setOut_ka (s : State) (p : Fin 8) (o : Out) (x : Output) : (s.setOut p o x).ka = s.ka := rfl
@[simp] theorem State.setOut_store (s : State) (p : Fin 8) (o : Out) (x : Output) : (s.setOut p o x).store = s.store := rfl
@[simp] theorem State.setOut_pins (s : State) (p : Fin 8) (o : Out) (x : Output) : (s.setOut p o x).pins = s.pins := rfl
@[simp] theorem State.setOut_free (s : State) (p : Fin 8) (o : Out) (x : Output) : (s.setOut p o x).free = s.free := rfl
@[simp] theorem State.setOut_pending (s : State) (p : Fin 8) (o : Out) (x : Output) : (s.setOut p o x).pending = s.pending := rfl

@[simp] theorem State.modJournal_mode (s : State) (f : Journal → Journal) : (s.modJournal f).mode = s.mode := rfl
@[simp] theorem State.modJournal_safeCause (s : State) (f : Journal → Journal) : (s.modJournal f).safeCause = s.safeCause := rfl
@[simp] theorem State.modJournal_deviceCondition (s : State) (f : Journal → Journal) : (s.modJournal f).deviceCondition = s.deviceCondition := rfl
@[simp] theorem State.modJournal_resetCause (s : State) (f : Journal → Journal) : (s.modJournal f).resetCause = s.resetCause := rfl
@[simp] theorem State.modJournal_resetLine (s : State) (f : Journal → Journal) : (s.modJournal f).resetLine = s.resetLine := rfl
@[simp] theorem State.modJournal_cfg (s : State) (f : Journal → Journal) : (s.modJournal f).cfg = s.cfg := rfl
@[simp] theorem State.modJournal_link (s : State) (f : Journal → Journal) : (s.modJournal f).link = s.link := rfl
@[simp] theorem State.modJournal_ports (s : State) (f : Journal → Journal) : (s.modJournal f).ports = s.ports := rfl
@[simp] theorem State.modJournal_sup (s : State) (f : Journal → Journal) : (s.modJournal f).sup = s.sup := rfl
@[simp] theorem State.modJournal_journal (s : State) (f : Journal → Journal) : (s.modJournal f).journal = f s.journal := rfl
@[simp] theorem State.modJournal_timeBase (s : State) (f : Journal → Journal) : (s.modJournal f).timeBase = s.timeBase := rfl
@[simp] theorem State.modJournal_attn (s : State) (f : Journal → Journal) : (s.modJournal f).attn = s.attn := rfl
@[simp] theorem State.modJournal_atn (s : State) (f : Journal → Journal) : (s.modJournal f).atn = s.atn := rfl
@[simp] theorem State.modJournal_ka (s : State) (f : Journal → Journal) : (s.modJournal f).ka = s.ka := rfl
@[simp] theorem State.modJournal_store (s : State) (f : Journal → Journal) : (s.modJournal f).store = s.store := rfl
@[simp] theorem State.modJournal_pins (s : State) (f : Journal → Journal) : (s.modJournal f).pins = s.pins := rfl
@[simp] theorem State.modJournal_free (s : State) (f : Journal → Journal) : (s.modJournal f).free = s.free := rfl
@[simp] theorem State.modJournal_pending (s : State) (f : Journal → Journal) : (s.modJournal f).pending = s.pending := rfl

@[simp] theorem State.modAttn_mode (s : State) (f : Attention → Attention) : (s.modAttn f).mode = s.mode := rfl
@[simp] theorem State.modAttn_safeCause (s : State) (f : Attention → Attention) : (s.modAttn f).safeCause = s.safeCause := rfl
@[simp] theorem State.modAttn_deviceCondition (s : State) (f : Attention → Attention) : (s.modAttn f).deviceCondition = s.deviceCondition := rfl
@[simp] theorem State.modAttn_resetCause (s : State) (f : Attention → Attention) : (s.modAttn f).resetCause = s.resetCause := rfl
@[simp] theorem State.modAttn_resetLine (s : State) (f : Attention → Attention) : (s.modAttn f).resetLine = s.resetLine := rfl
@[simp] theorem State.modAttn_cfg (s : State) (f : Attention → Attention) : (s.modAttn f).cfg = s.cfg := rfl
@[simp] theorem State.modAttn_link (s : State) (f : Attention → Attention) : (s.modAttn f).link = s.link := rfl
@[simp] theorem State.modAttn_ports (s : State) (f : Attention → Attention) : (s.modAttn f).ports = s.ports := rfl
@[simp] theorem State.modAttn_sup (s : State) (f : Attention → Attention) : (s.modAttn f).sup = s.sup := rfl
@[simp] theorem State.modAttn_journal (s : State) (f : Attention → Attention) : (s.modAttn f).journal = s.journal := rfl
@[simp] theorem State.modAttn_timeBase (s : State) (f : Attention → Attention) : (s.modAttn f).timeBase = s.timeBase := rfl
@[simp] theorem State.modAttn_attn (s : State) (f : Attention → Attention) : (s.modAttn f).attn = f s.attn := rfl
@[simp] theorem State.modAttn_atn (s : State) (f : Attention → Attention) : (s.modAttn f).atn = s.atn := rfl
@[simp] theorem State.modAttn_ka (s : State) (f : Attention → Attention) : (s.modAttn f).ka = s.ka := rfl
@[simp] theorem State.modAttn_store (s : State) (f : Attention → Attention) : (s.modAttn f).store = s.store := rfl
@[simp] theorem State.modAttn_pins (s : State) (f : Attention → Attention) : (s.modAttn f).pins = s.pins := rfl
@[simp] theorem State.modAttn_free (s : State) (f : Attention → Attention) : (s.modAttn f).free = s.free := rfl
@[simp] theorem State.modAttn_pending (s : State) (f : Attention → Attention) : (s.modAttn f).pending = s.pending := rfl

@[simp] theorem State.modLink_mode (s : State) (f : Link → Link) : (s.modLink f).mode = s.mode := rfl
@[simp] theorem State.modLink_safeCause (s : State) (f : Link → Link) : (s.modLink f).safeCause = s.safeCause := rfl
@[simp] theorem State.modLink_deviceCondition (s : State) (f : Link → Link) : (s.modLink f).deviceCondition = s.deviceCondition := rfl
@[simp] theorem State.modLink_resetCause (s : State) (f : Link → Link) : (s.modLink f).resetCause = s.resetCause := rfl
@[simp] theorem State.modLink_resetLine (s : State) (f : Link → Link) : (s.modLink f).resetLine = s.resetLine := rfl
@[simp] theorem State.modLink_cfg (s : State) (f : Link → Link) : (s.modLink f).cfg = s.cfg := rfl
@[simp] theorem State.modLink_link (s : State) (f : Link → Link) : (s.modLink f).link = f s.link := rfl
@[simp] theorem State.modLink_ports (s : State) (f : Link → Link) : (s.modLink f).ports = s.ports := rfl
@[simp] theorem State.modLink_sup (s : State) (f : Link → Link) : (s.modLink f).sup = s.sup := rfl
@[simp] theorem State.modLink_journal (s : State) (f : Link → Link) : (s.modLink f).journal = s.journal := rfl
@[simp] theorem State.modLink_timeBase (s : State) (f : Link → Link) : (s.modLink f).timeBase = s.timeBase := rfl
@[simp] theorem State.modLink_attn (s : State) (f : Link → Link) : (s.modLink f).attn = s.attn := rfl
@[simp] theorem State.modLink_atn (s : State) (f : Link → Link) : (s.modLink f).atn = s.atn := rfl
@[simp] theorem State.modLink_ka (s : State) (f : Link → Link) : (s.modLink f).ka = s.ka := rfl
@[simp] theorem State.modLink_store (s : State) (f : Link → Link) : (s.modLink f).store = s.store := rfl
@[simp] theorem State.modLink_pins (s : State) (f : Link → Link) : (s.modLink f).pins = s.pins := rfl
@[simp] theorem State.modLink_free (s : State) (f : Link → Link) : (s.modLink f).free = s.free := rfl
@[simp] theorem State.modLink_pending (s : State) (f : Link → Link) : (s.modLink f).pending = s.pending := rfl

@[simp] theorem State.modStore_mode (s : State) (f : Store → Store) : (s.modStore f).mode = s.mode := rfl
@[simp] theorem State.modStore_safeCause (s : State) (f : Store → Store) : (s.modStore f).safeCause = s.safeCause := rfl
@[simp] theorem State.modStore_deviceCondition (s : State) (f : Store → Store) : (s.modStore f).deviceCondition = s.deviceCondition := rfl
@[simp] theorem State.modStore_resetCause (s : State) (f : Store → Store) : (s.modStore f).resetCause = s.resetCause := rfl
@[simp] theorem State.modStore_resetLine (s : State) (f : Store → Store) : (s.modStore f).resetLine = s.resetLine := rfl
@[simp] theorem State.modStore_cfg (s : State) (f : Store → Store) : (s.modStore f).cfg = s.cfg := rfl
@[simp] theorem State.modStore_link (s : State) (f : Store → Store) : (s.modStore f).link = s.link := rfl
@[simp] theorem State.modStore_ports (s : State) (f : Store → Store) : (s.modStore f).ports = s.ports := rfl
@[simp] theorem State.modStore_sup (s : State) (f : Store → Store) : (s.modStore f).sup = s.sup := rfl
@[simp] theorem State.modStore_journal (s : State) (f : Store → Store) : (s.modStore f).journal = s.journal := rfl
@[simp] theorem State.modStore_timeBase (s : State) (f : Store → Store) : (s.modStore f).timeBase = s.timeBase := rfl
@[simp] theorem State.modStore_attn (s : State) (f : Store → Store) : (s.modStore f).attn = s.attn := rfl
@[simp] theorem State.modStore_atn (s : State) (f : Store → Store) : (s.modStore f).atn = s.atn := rfl
@[simp] theorem State.modStore_ka (s : State) (f : Store → Store) : (s.modStore f).ka = s.ka := rfl
@[simp] theorem State.modStore_store (s : State) (f : Store → Store) : (s.modStore f).store = f s.store := rfl
@[simp] theorem State.modStore_pins (s : State) (f : Store → Store) : (s.modStore f).pins = s.pins := rfl
@[simp] theorem State.modStore_free (s : State) (f : Store → Store) : (s.modStore f).free = s.free := rfl
@[simp] theorem State.modStore_pending (s : State) (f : Store → Store) : (s.modStore f).pending = s.pending := rfl

@[simp] theorem State.modKa_mode (s : State) (f : Keepalive → Keepalive) : (s.modKa f).mode = s.mode := rfl
@[simp] theorem State.modKa_safeCause (s : State) (f : Keepalive → Keepalive) : (s.modKa f).safeCause = s.safeCause := rfl
@[simp] theorem State.modKa_deviceCondition (s : State) (f : Keepalive → Keepalive) : (s.modKa f).deviceCondition = s.deviceCondition := rfl
@[simp] theorem State.modKa_resetCause (s : State) (f : Keepalive → Keepalive) : (s.modKa f).resetCause = s.resetCause := rfl
@[simp] theorem State.modKa_resetLine (s : State) (f : Keepalive → Keepalive) : (s.modKa f).resetLine = s.resetLine := rfl
@[simp] theorem State.modKa_cfg (s : State) (f : Keepalive → Keepalive) : (s.modKa f).cfg = s.cfg := rfl
@[simp] theorem State.modKa_link (s : State) (f : Keepalive → Keepalive) : (s.modKa f).link = s.link := rfl
@[simp] theorem State.modKa_ports (s : State) (f : Keepalive → Keepalive) : (s.modKa f).ports = s.ports := rfl
@[simp] theorem State.modKa_sup (s : State) (f : Keepalive → Keepalive) : (s.modKa f).sup = s.sup := rfl
@[simp] theorem State.modKa_journal (s : State) (f : Keepalive → Keepalive) : (s.modKa f).journal = s.journal := rfl
@[simp] theorem State.modKa_timeBase (s : State) (f : Keepalive → Keepalive) : (s.modKa f).timeBase = s.timeBase := rfl
@[simp] theorem State.modKa_attn (s : State) (f : Keepalive → Keepalive) : (s.modKa f).attn = s.attn := rfl
@[simp] theorem State.modKa_atn (s : State) (f : Keepalive → Keepalive) : (s.modKa f).atn = s.atn := rfl
@[simp] theorem State.modKa_ka (s : State) (f : Keepalive → Keepalive) : (s.modKa f).ka = f s.ka := rfl
@[simp] theorem State.modKa_store (s : State) (f : Keepalive → Keepalive) : (s.modKa f).store = s.store := rfl
@[simp] theorem State.modKa_pins (s : State) (f : Keepalive → Keepalive) : (s.modKa f).pins = s.pins := rfl
@[simp] theorem State.modKa_free (s : State) (f : Keepalive → Keepalive) : (s.modKa f).free = s.free := rfl
@[simp] theorem State.modKa_pending (s : State) (f : Keepalive → Keepalive) : (s.modKa f).pending = s.pending := rfl

@[simp] theorem State.modSup_mode (s : State) (f : Supervisor → Supervisor) : (s.modSup f).mode = s.mode := rfl
@[simp] theorem State.modSup_safeCause (s : State) (f : Supervisor → Supervisor) : (s.modSup f).safeCause = s.safeCause := rfl
@[simp] theorem State.modSup_deviceCondition (s : State) (f : Supervisor → Supervisor) : (s.modSup f).deviceCondition = s.deviceCondition := rfl
@[simp] theorem State.modSup_resetCause (s : State) (f : Supervisor → Supervisor) : (s.modSup f).resetCause = s.resetCause := rfl
@[simp] theorem State.modSup_resetLine (s : State) (f : Supervisor → Supervisor) : (s.modSup f).resetLine = s.resetLine := rfl
@[simp] theorem State.modSup_cfg (s : State) (f : Supervisor → Supervisor) : (s.modSup f).cfg = s.cfg := rfl
@[simp] theorem State.modSup_link (s : State) (f : Supervisor → Supervisor) : (s.modSup f).link = s.link := rfl
@[simp] theorem State.modSup_ports (s : State) (f : Supervisor → Supervisor) : (s.modSup f).ports = s.ports := rfl
@[simp] theorem State.modSup_sup (s : State) (f : Supervisor → Supervisor) : (s.modSup f).sup = f s.sup := rfl
@[simp] theorem State.modSup_journal (s : State) (f : Supervisor → Supervisor) : (s.modSup f).journal = s.journal := rfl
@[simp] theorem State.modSup_timeBase (s : State) (f : Supervisor → Supervisor) : (s.modSup f).timeBase = s.timeBase := rfl
@[simp] theorem State.modSup_attn (s : State) (f : Supervisor → Supervisor) : (s.modSup f).attn = s.attn := rfl
@[simp] theorem State.modSup_atn (s : State) (f : Supervisor → Supervisor) : (s.modSup f).atn = s.atn := rfl
@[simp] theorem State.modSup_ka (s : State) (f : Supervisor → Supervisor) : (s.modSup f).ka = s.ka := rfl
@[simp] theorem State.modSup_store (s : State) (f : Supervisor → Supervisor) : (s.modSup f).store = s.store := rfl
@[simp] theorem State.modSup_pins (s : State) (f : Supervisor → Supervisor) : (s.modSup f).pins = s.pins := rfl
@[simp] theorem State.modSup_free (s : State) (f : Supervisor → Supervisor) : (s.modSup f).free = s.free := rfl
@[simp] theorem State.modSup_pending (s : State) (f : Supervisor → Supervisor) : (s.modSup f).pending = s.pending := rfl

@[simp] theorem State.modPins_mode (s : State) (f : Pins → Pins) : (s.modPins f).mode = s.mode := rfl
@[simp] theorem State.modPins_safeCause (s : State) (f : Pins → Pins) : (s.modPins f).safeCause = s.safeCause := rfl
@[simp] theorem State.modPins_deviceCondition (s : State) (f : Pins → Pins) : (s.modPins f).deviceCondition = s.deviceCondition := rfl
@[simp] theorem State.modPins_resetCause (s : State) (f : Pins → Pins) : (s.modPins f).resetCause = s.resetCause := rfl
@[simp] theorem State.modPins_resetLine (s : State) (f : Pins → Pins) : (s.modPins f).resetLine = s.resetLine := rfl
@[simp] theorem State.modPins_cfg (s : State) (f : Pins → Pins) : (s.modPins f).cfg = s.cfg := rfl
@[simp] theorem State.modPins_link (s : State) (f : Pins → Pins) : (s.modPins f).link = s.link := rfl
@[simp] theorem State.modPins_ports (s : State) (f : Pins → Pins) : (s.modPins f).ports = s.ports := rfl
@[simp] theorem State.modPins_sup (s : State) (f : Pins → Pins) : (s.modPins f).sup = s.sup := rfl
@[simp] theorem State.modPins_journal (s : State) (f : Pins → Pins) : (s.modPins f).journal = s.journal := rfl
@[simp] theorem State.modPins_timeBase (s : State) (f : Pins → Pins) : (s.modPins f).timeBase = s.timeBase := rfl
@[simp] theorem State.modPins_attn (s : State) (f : Pins → Pins) : (s.modPins f).attn = s.attn := rfl
@[simp] theorem State.modPins_atn (s : State) (f : Pins → Pins) : (s.modPins f).atn = s.atn := rfl
@[simp] theorem State.modPins_ka (s : State) (f : Pins → Pins) : (s.modPins f).ka = s.ka := rfl
@[simp] theorem State.modPins_store (s : State) (f : Pins → Pins) : (s.modPins f).store = s.store := rfl
@[simp] theorem State.modPins_pins (s : State) (f : Pins → Pins) : (s.modPins f).pins = f s.pins := rfl
@[simp] theorem State.modPins_free (s : State) (f : Pins → Pins) : (s.modPins f).free = s.free := rfl
@[simp] theorem State.modPins_pending (s : State) (f : Pins → Pins) : (s.modPins f).pending = s.pending := rfl

@[simp] theorem State.modCfg_mode (s : State) (f : Settings → Settings) : (s.modCfg f).mode = s.mode := rfl
@[simp] theorem State.modCfg_safeCause (s : State) (f : Settings → Settings) : (s.modCfg f).safeCause = s.safeCause := rfl
@[simp] theorem State.modCfg_deviceCondition (s : State) (f : Settings → Settings) : (s.modCfg f).deviceCondition = s.deviceCondition := rfl
@[simp] theorem State.modCfg_resetCause (s : State) (f : Settings → Settings) : (s.modCfg f).resetCause = s.resetCause := rfl
@[simp] theorem State.modCfg_resetLine (s : State) (f : Settings → Settings) : (s.modCfg f).resetLine = s.resetLine := rfl
@[simp] theorem State.modCfg_cfg (s : State) (f : Settings → Settings) : (s.modCfg f).cfg = f s.cfg := rfl
@[simp] theorem State.modCfg_link (s : State) (f : Settings → Settings) : (s.modCfg f).link = s.link := rfl
@[simp] theorem State.modCfg_ports (s : State) (f : Settings → Settings) : (s.modCfg f).ports = s.ports := rfl
@[simp] theorem State.modCfg_sup (s : State) (f : Settings → Settings) : (s.modCfg f).sup = s.sup := rfl
@[simp] theorem State.modCfg_journal (s : State) (f : Settings → Settings) : (s.modCfg f).journal = s.journal := rfl
@[simp] theorem State.modCfg_timeBase (s : State) (f : Settings → Settings) : (s.modCfg f).timeBase = s.timeBase := rfl
@[simp] theorem State.modCfg_attn (s : State) (f : Settings → Settings) : (s.modCfg f).attn = s.attn := rfl
@[simp] theorem State.modCfg_atn (s : State) (f : Settings → Settings) : (s.modCfg f).atn = s.atn := rfl
@[simp] theorem State.modCfg_ka (s : State) (f : Settings → Settings) : (s.modCfg f).ka = s.ka := rfl
@[simp] theorem State.modCfg_store (s : State) (f : Settings → Settings) : (s.modCfg f).store = s.store := rfl
@[simp] theorem State.modCfg_pins (s : State) (f : Settings → Settings) : (s.modCfg f).pins = s.pins := rfl
@[simp] theorem State.modCfg_free (s : State) (f : Settings → Settings) : (s.modCfg f).free = s.free := rfl
@[simp] theorem State.modCfg_pending (s : State) (f : Settings → Settings) : (s.modCfg f).pending = s.pending := rfl

@[simp] theorem State.setMode_mode (s : State) (m : Mode) (c : SafeCause) : (s.setMode m c).mode = m := rfl
@[simp] theorem State.setMode_safeCause (s : State) (m : Mode) (c : SafeCause) : (s.setMode m c).safeCause = c := rfl
@[simp] theorem State.setMode_deviceCondition (s : State) (m : Mode) (c : SafeCause) : (s.setMode m c).deviceCondition = s.deviceCondition := rfl
@[simp] theorem State.setMode_resetCause (s : State) (m : Mode) (c : SafeCause) : (s.setMode m c).resetCause = s.resetCause := rfl
@[simp] theorem State.setMode_resetLine (s : State) (m : Mode) (c : SafeCause) : (s.setMode m c).resetLine = s.resetLine := rfl
@[simp] theorem State.setMode_cfg (s : State) (m : Mode) (c : SafeCause) : (s.setMode m c).cfg = s.cfg := rfl
@[simp] theorem State.setMode_link (s : State) (m : Mode) (c : SafeCause) : (s.setMode m c).link = s.link := rfl
@[simp] theorem State.setMode_ports (s : State) (m : Mode) (c : SafeCause) : (s.setMode m c).ports = s.ports := rfl
@[simp] theorem State.setMode_sup (s : State) (m : Mode) (c : SafeCause) : (s.setMode m c).sup = s.sup := rfl
@[simp] theorem State.setMode_journal (s : State) (m : Mode) (c : SafeCause) : (s.setMode m c).journal = s.journal := rfl
@[simp] theorem State.setMode_timeBase (s : State) (m : Mode) (c : SafeCause) : (s.setMode m c).timeBase = s.timeBase := rfl
@[simp] theorem State.setMode_attn (s : State) (m : Mode) (c : SafeCause) : (s.setMode m c).attn = s.attn := rfl
@[simp] theorem State.setMode_atn (s : State) (m : Mode) (c : SafeCause) : (s.setMode m c).atn = s.atn := rfl
@[simp] theorem State.setMode_ka (s : State) (m : Mode) (c : SafeCause) : (s.setMode m c).ka = s.ka := rfl
@[simp] theorem State.setMode_store (s : State) (m : Mode) (c : SafeCause) : (s.setMode m c).store = s.store := rfl
@[simp] theorem State.setMode_pins (s : State) (m : Mode) (c : SafeCause) : (s.setMode m c).pins = s.pins := rfl
@[simp] theorem State.setMode_free (s : State) (m : Mode) (c : SafeCause) : (s.setMode m c).free = s.free := rfl
@[simp] theorem State.setMode_pending (s : State) (m : Mode) (c : SafeCause) : (s.setMode m c).pending = s.pending := rfl

@[simp] theorem State.withPending_mode (s : State) (q : List Instr) : (s.withPending q).mode = s.mode := rfl
@[simp] theorem State.withPending_safeCause (s : State) (q : List Instr) : (s.withPending q).safeCause = s.safeCause := rfl
@[simp] theorem State.withPending_deviceCondition (s : State) (q : List Instr) : (s.withPending q).deviceCondition = s.deviceCondition := rfl
@[simp] theorem State.withPending_resetCause (s : State) (q : List Instr) : (s.withPending q).resetCause = s.resetCause := rfl
@[simp] theorem State.withPending_resetLine (s : State) (q : List Instr) : (s.withPending q).resetLine = s.resetLine := rfl
@[simp] theorem State.withPending_cfg (s : State) (q : List Instr) : (s.withPending q).cfg = s.cfg := rfl
@[simp] theorem State.withPending_link (s : State) (q : List Instr) : (s.withPending q).link = s.link := rfl
@[simp] theorem State.withPending_ports (s : State) (q : List Instr) : (s.withPending q).ports = s.ports := rfl
@[simp] theorem State.withPending_sup (s : State) (q : List Instr) : (s.withPending q).sup = s.sup := rfl
@[simp] theorem State.withPending_journal (s : State) (q : List Instr) : (s.withPending q).journal = s.journal := rfl
@[simp] theorem State.withPending_timeBase (s : State) (q : List Instr) : (s.withPending q).timeBase = s.timeBase := rfl
@[simp] theorem State.withPending_attn (s : State) (q : List Instr) : (s.withPending q).attn = s.attn := rfl
@[simp] theorem State.withPending_atn (s : State) (q : List Instr) : (s.withPending q).atn = s.atn := rfl
@[simp] theorem State.withPending_ka (s : State) (q : List Instr) : (s.withPending q).ka = s.ka := rfl
@[simp] theorem State.withPending_store (s : State) (q : List Instr) : (s.withPending q).store = s.store := rfl
@[simp] theorem State.withPending_pins (s : State) (q : List Instr) : (s.withPending q).pins = s.pins := rfl
@[simp] theorem State.withPending_free (s : State) (q : List Instr) : (s.withPending q).free = s.free := rfl
@[simp] theorem State.withPending_pending (s : State) (q : List Instr) : (s.withPending q).pending = q := rfl

@[simp] theorem State.setDeviceFlag_mode (s : State) (n : Nat) : (s.setDeviceFlag n).mode = s.mode := rfl
@[simp] theorem State.setDeviceFlag_safeCause (s : State) (n : Nat) : (s.setDeviceFlag n).safeCause = s.safeCause := rfl
@[simp] theorem State.setDeviceFlag_deviceCondition (s : State) (n : Nat) : (s.setDeviceFlag n).deviceCondition = setBit s.deviceCondition n := rfl
@[simp] theorem State.setDeviceFlag_resetCause (s : State) (n : Nat) : (s.setDeviceFlag n).resetCause = s.resetCause := rfl
@[simp] theorem State.setDeviceFlag_resetLine (s : State) (n : Nat) : (s.setDeviceFlag n).resetLine = s.resetLine := rfl
@[simp] theorem State.setDeviceFlag_cfg (s : State) (n : Nat) : (s.setDeviceFlag n).cfg = s.cfg := rfl
@[simp] theorem State.setDeviceFlag_link (s : State) (n : Nat) : (s.setDeviceFlag n).link = s.link := rfl
@[simp] theorem State.setDeviceFlag_ports (s : State) (n : Nat) : (s.setDeviceFlag n).ports = s.ports := rfl
@[simp] theorem State.setDeviceFlag_sup (s : State) (n : Nat) : (s.setDeviceFlag n).sup = s.sup := rfl
@[simp] theorem State.setDeviceFlag_journal (s : State) (n : Nat) : (s.setDeviceFlag n).journal = s.journal := rfl
@[simp] theorem State.setDeviceFlag_timeBase (s : State) (n : Nat) : (s.setDeviceFlag n).timeBase = s.timeBase := rfl
@[simp] theorem State.setDeviceFlag_attn (s : State) (n : Nat) : (s.setDeviceFlag n).attn = s.attn := rfl
@[simp] theorem State.setDeviceFlag_atn (s : State) (n : Nat) : (s.setDeviceFlag n).atn = s.atn := rfl
@[simp] theorem State.setDeviceFlag_ka (s : State) (n : Nat) : (s.setDeviceFlag n).ka = s.ka := rfl
@[simp] theorem State.setDeviceFlag_store (s : State) (n : Nat) : (s.setDeviceFlag n).store = s.store := rfl
@[simp] theorem State.setDeviceFlag_pins (s : State) (n : Nat) : (s.setDeviceFlag n).pins = s.pins := rfl
@[simp] theorem State.setDeviceFlag_free (s : State) (n : Nat) : (s.setDeviceFlag n).free = s.free := rfl
@[simp] theorem State.setDeviceFlag_pending (s : State) (n : Nat) : (s.setDeviceFlag n).pending = s.pending := rfl

@[simp] theorem State.setPortFlag_mode (s : State) (p : Fin 8) (n : Nat) : (s.setPortFlag p n).mode = s.mode := rfl
@[simp] theorem State.setPortFlag_safeCause (s : State) (p : Fin 8) (n : Nat) : (s.setPortFlag p n).safeCause = s.safeCause := rfl
@[simp] theorem State.setPortFlag_deviceCondition (s : State) (p : Fin 8) (n : Nat) : (s.setPortFlag p n).deviceCondition = s.deviceCondition := rfl
@[simp] theorem State.setPortFlag_resetCause (s : State) (p : Fin 8) (n : Nat) : (s.setPortFlag p n).resetCause = s.resetCause := rfl
@[simp] theorem State.setPortFlag_resetLine (s : State) (p : Fin 8) (n : Nat) : (s.setPortFlag p n).resetLine = s.resetLine := rfl
@[simp] theorem State.setPortFlag_cfg (s : State) (p : Fin 8) (n : Nat) : (s.setPortFlag p n).cfg = s.cfg := rfl
@[simp] theorem State.setPortFlag_link (s : State) (p : Fin 8) (n : Nat) : (s.setPortFlag p n).link = s.link := rfl
@[simp] theorem State.setPortFlag_sup (s : State) (p : Fin 8) (n : Nat) : (s.setPortFlag p n).sup = s.sup := rfl
@[simp] theorem State.setPortFlag_journal (s : State) (p : Fin 8) (n : Nat) : (s.setPortFlag p n).journal = s.journal := rfl
@[simp] theorem State.setPortFlag_timeBase (s : State) (p : Fin 8) (n : Nat) : (s.setPortFlag p n).timeBase = s.timeBase := rfl
@[simp] theorem State.setPortFlag_attn (s : State) (p : Fin 8) (n : Nat) : (s.setPortFlag p n).attn = s.attn := rfl
@[simp] theorem State.setPortFlag_atn (s : State) (p : Fin 8) (n : Nat) : (s.setPortFlag p n).atn = s.atn := rfl
@[simp] theorem State.setPortFlag_ka (s : State) (p : Fin 8) (n : Nat) : (s.setPortFlag p n).ka = s.ka := rfl
@[simp] theorem State.setPortFlag_store (s : State) (p : Fin 8) (n : Nat) : (s.setPortFlag p n).store = s.store := rfl
@[simp] theorem State.setPortFlag_pins (s : State) (p : Fin 8) (n : Nat) : (s.setPortFlag p n).pins = s.pins := rfl
@[simp] theorem State.setPortFlag_free (s : State) (p : Fin 8) (n : Nat) : (s.setPortFlag p n).free = s.free := rfl
@[simp] theorem State.setPortFlag_pending (s : State) (p : Fin 8) (n : Nat) : (s.setPortFlag p n).pending = s.pending := rfl

@[simp] theorem State.withLoad_mode (s : State) (p : Fin 8) (o : Out) (n : Nat) : (s.withLoad p o n).mode = s.mode := rfl
@[simp] theorem State.withLoad_safeCause (s : State) (p : Fin 8) (o : Out) (n : Nat) : (s.withLoad p o n).safeCause = s.safeCause := rfl
@[simp] theorem State.withLoad_deviceCondition (s : State) (p : Fin 8) (o : Out) (n : Nat) : (s.withLoad p o n).deviceCondition = s.deviceCondition := rfl
@[simp] theorem State.withLoad_resetCause (s : State) (p : Fin 8) (o : Out) (n : Nat) : (s.withLoad p o n).resetCause = s.resetCause := rfl
@[simp] theorem State.withLoad_resetLine (s : State) (p : Fin 8) (o : Out) (n : Nat) : (s.withLoad p o n).resetLine = s.resetLine := rfl
@[simp] theorem State.withLoad_cfg (s : State) (p : Fin 8) (o : Out) (n : Nat) : (s.withLoad p o n).cfg = s.cfg := rfl
@[simp] theorem State.withLoad_link (s : State) (p : Fin 8) (o : Out) (n : Nat) : (s.withLoad p o n).link = s.link := rfl
@[simp] theorem State.withLoad_ports (s : State) (p : Fin 8) (o : Out) (n : Nat) : (s.withLoad p o n).ports = s.ports := rfl
@[simp] theorem State.withLoad_sup (s : State) (p : Fin 8) (o : Out) (n : Nat) : (s.withLoad p o n).sup = s.sup := rfl
@[simp] theorem State.withLoad_journal (s : State) (p : Fin 8) (o : Out) (n : Nat) : (s.withLoad p o n).journal = s.journal := rfl
@[simp] theorem State.withLoad_timeBase (s : State) (p : Fin 8) (o : Out) (n : Nat) : (s.withLoad p o n).timeBase = s.timeBase := rfl
@[simp] theorem State.withLoad_attn (s : State) (p : Fin 8) (o : Out) (n : Nat) : (s.withLoad p o n).attn = s.attn := rfl
@[simp] theorem State.withLoad_atn (s : State) (p : Fin 8) (o : Out) (n : Nat) : (s.withLoad p o n).atn = s.atn := rfl
@[simp] theorem State.withLoad_ka (s : State) (p : Fin 8) (o : Out) (n : Nat) : (s.withLoad p o n).ka = s.ka := rfl
@[simp] theorem State.withLoad_store (s : State) (p : Fin 8) (o : Out) (n : Nat) : (s.withLoad p o n).store = s.store := rfl
@[simp] theorem State.withLoad_free (s : State) (p : Fin 8) (o : Out) (n : Nat) : (s.withLoad p o n).free = s.free := rfl
@[simp] theorem State.withLoad_pending (s : State) (p : Fin 8) (o : Out) (n : Nat) : (s.withLoad p o n).pending = s.pending := rfl
@[simp] theorem State.withLoad_pins (s : State) (p : Fin 8) (o : Out) (n : Nat) : (s.withLoad p o n).pins = s.pins.setLoad p o n := rfl

/-- The load of an output after it is replaced. -/
@[simp] theorem Pins.load_setLoad_self (x : Pins) (p : Fin 8) (o : Out) (n : Nat) : (x.setLoad p o n).load p o = n := by
  cases o <;> simp [Pins.load, Pins.setLoad]

/-- The load of another output of the port. -/
theorem Pins.load_setLoad_other (x : Pins) (p : Fin 8) {o o' : Out} (h : o' ≠ o) (n : Nat) :
    (x.setLoad p o n).load p o' = x.load p o' := by
  cases o <;> cases o' <;> first | exact absurd rfl h | rfl

/-- The evaluation of an output's current with its load replaced (R52). -/
theorem State.overloaded_withLoad (s : State) (p : Fin 8) (o : Out) (n : Nat) :
    (s.withLoad p o n).overloaded p o = (s.drives p o && decide ((s.conf p).cutoffCurrent o < n)) := by
  show ((s.withLoad p o n).drives p o && decide (((s.withLoad p o n).conf p).cutoffCurrent o < (s.pins.setLoad p o n).load p o)) = _
  rw [Pins.load_setLoad_self]; cases o <;> rfl

/-! ### The step of a WRITE (R42, R52) -/

/-- A guard register that takes the CURRENT code of another has that code. -/
@[simp] theorem guardCurrent_guardWithCurrent (g source : Word) : guardCurrent (guardWithCurrent g source) = guardCurrent source := by
  unfold guardCurrent guardWithCurrent field
  congr 1
  apply BitVec.eq_of_getLsbD_eq
  intro i hi
  match i with
  | 0 | 1 => simp
  | n + 2 => omega

/-- A guard register that takes the CURRENT code of another keeps its own bits elsewhere. -/
theorem guardWithCurrent_getLsbD (g source : Word) {i : Nat} (h : 2 ≤ i) : (guardWithCurrent g source).getLsbD i = g.getLsbD i := by
  have mask : ∀ i < 16, 2 ≤ i → (0xFFFC#16).getLsbD i = true ∧ (0x0003#16).getLsbD i = false := by decide
  by_cases hi : i < 16
  · simp [guardWithCurrent, mask i hi h]
  · simp [BitVec.getLsbD_of_ge _ _ (Nat.le_of_not_lt hi)]

/-- A guard register that takes the CURRENT code of another keeps its own CUTOFF code. -/
@[simp] theorem guardCutoff_guardWithCurrent (g source : Word) : guardCutoff (guardWithCurrent g source) = guardCutoff g := by
  unfold guardCutoff field
  congr 1
  apply BitVec.eq_of_getLsbD_eq
  intro i hi
  simp [hi, guardWithCurrent_getLsbD]

/-- A guard register that takes its own CURRENT code is itself. -/
@[simp] theorem guardWithCurrent_self (g : Word) : guardWithCurrent g g = g := by
  unfold guardWithCurrent
  rw [← BitVec.and_or_distrib_left]
  exact BitVec.and_allOnes

/-- In the step of a WRITE the old cut-off current is in force (R52). -/
@[simp] theorem PortConfig.cutoffCurrent_inStep (old new : PortConfig) (o : Out) :
    (old.inStep new).cutoffCurrent o = old.cutoffCurrent o := by
  cases o <;> simp [PortConfig.cutoffCurrent, PortConfig.guard, PortConfig.inStep]

/-- In the step of a WRITE a cut-off timer that starts takes the new delay (R42). -/
@[simp] theorem PortConfig.cutoff_inStep (old new : PortConfig) (o : Out) : (old.inStep new).cutoff o = new.cutoff o := by
  cases o <;> simp [PortConfig.cutoff, PortConfig.guard, PortConfig.inStep]

/-- In the step of a WRITE the new enables are in force (R42, R51). -/
@[simp] theorem outEnabled_inStep (mode : Mode) (old new : PortConfig) (o : Out) :
    outEnabled mode (old.inStep new) o = outEnabled mode new o := by
  cases o <;> rfl

/-- In the step of a WRITE the new PORT_MODE is in force (R42). -/
@[simp] theorem PortConfig.portMode_inStep (old new : PortConfig) : (old.inStep new).portMode = new.portMode := rfl

/-- A WRITE that leaves the guards and PORT_ATTN_MASK alone is judged under its new configuration. -/
theorem PortConfig.inStep_eq {old new : PortConfig} (hf : guardWithCurrent new.feedGuard old.feedGuard = new.feedGuard)
    (hs : guardWithCurrent new.signalGuard old.signalGuard = new.signalGuard) (hm : old.attnMask = new.attnMask) :
    old.inStep new = new := by
  cases new; simp_all [PortConfig.inStep]

/-- A port that a WRITE does not name keeps its configuration in the step. -/
@[simp] theorem PortConfig.inStep_self (c : PortConfig) : c.inStep c = c :=
  PortConfig.inStep_eq (guardWithCurrent_self _) (guardWithCurrent_self _) rfl

/-- The configuration of a port in the step of a WRITE. -/
@[simp] theorem Settings.inStep_ports (old new : Settings) (p : Fin 8) :
    (old.inStep new).ports.get p = (old.ports.get p).inStep (new.ports.get p) := by
  simp [Settings.inStep]

end Sys2Proof.Machine
end

