-- ==== Sys2Proof/Laws/Touch.lean ====
section
/-! SUPPORT. The frame of everything that happens to single ports: an operation touches some ports, records entries and marks port
causes, and leaves the rest of the machine alone. One lemma for each operation of Outputs, Pool, Line and Engine. -/

namespace Sys2Proof.Machine

/-! ### Reading a port after an update -/

theorem State.modPort_port (s : State) (p q : Fin 8) (f : Port → Port) :
    (s.modPort p f).port q = if q = p then f (s.port p) else s.port q := Eight.get_set ..

@[simp] theorem State.modPort_port_self (s : State) (p : Fin 8) (f : Port → Port) :
    (s.modPort p f).port p = f (s.port p) := Eight.get_set_self ..

theorem State.modPort_port_of_ne (s : State) {p q : Fin 8} (f : Port → Port) (h : q ≠ p) :
    (s.modPort p f).port q = s.port q := Eight.get_set_of_ne _ _ h

@[simp] theorem State.modPort_conf (s : State) (p q : Fin 8) (f : Port → Port) : (s.modPort p f).conf q = s.conf q := rfl

@[simp] theorem State.modEngine_port_self (s : State) (p : Fin 8) (f : Engine → Engine) :
    (s.modEngine p f).port p = { s.port p with engine := f (s.port p).engine } := State.modPort_port_self ..

@[simp] theorem State.modEngine_engine_self (s : State) (p : Fin 8) (f : Engine → Engine) :
    (s.modEngine p f).engine p = f (s.engine p) := by
  unfold State.engine; rw [State.modEngine_port_self]

@[simp] theorem State.modEngine_conf (s : State) (p q : Fin 8) (f : Engine → Engine) :
    (s.modEngine p f).conf q = s.conf q := rfl

/-! ### Recording and marking -/

/-- A journal that has met some events in turn. -/
def Journal.Meets (config : Word) (time : BitVec 32) (j k : Journal) : Prop :=
  ∃ es : List Event, k = es.foldl (fun j e => j.put config time e) j

/-- One mark: a port cause, or a code of a source 8 to 14. -/
inductive Mark
  | cause (p : Fin 8) (k : Fin 10)
  | code (src : Source) (c : Byte)

/-- A mark applied (R153, R154). -/
def Attention.take (a : Attention) : Mark → Attention
  | .cause p k => a.mark (.port p) (fun l => l.addCause k)
  | .code src c => a.mark src (fun l => l.addCode c)

/-- An attention controller that has taken causes of some ports in turn. -/
def Attention.Causes (P : Fin 8 → Prop) (a b : Attention) : Prop :=
  ∃ l : List (Fin 8 × Fin 10), (∀ x ∈ l, P x.1) ∧ b = l.foldl (fun a x => a.take (.cause x.1 x.2)) a

/-- The step from `s` to `t` touches only ports in `P`: it changes their state, records entries and raises their causes. -/
structure Touches (P : Fin 8 → Prop) (s t : State) : Prop where
  fixed : { t with ports := s.ports, journal := s.journal, attn := s.attn } = s
  others : ∀ q, ¬P q → t.port q = s.port q
  journal : Journal.Meets s.cfg.journalConfig s.timeBase s.journal t.journal
  attn : Attention.Causes P s.attn t.attn

namespace Touches

variable {P Q : Fin 8 → Prop} {s t u : State}

theorem mode (h : Touches P s t) : t.mode = s.mode := (congrArg State.mode h.fixed :)
theorem safeCause (h : Touches P s t) : t.safeCause = s.safeCause := (congrArg State.safeCause h.fixed :)
theorem deviceCondition (h : Touches P s t) : t.deviceCondition = s.deviceCondition :=
  (congrArg State.deviceCondition h.fixed :)
theorem resetCause (h : Touches P s t) : t.resetCause = s.resetCause := (congrArg State.resetCause h.fixed :)
theorem resetLine (h : Touches P s t) : t.resetLine = s.resetLine := (congrArg State.resetLine h.fixed :)
theorem cfg (h : Touches P s t) : t.cfg = s.cfg := (congrArg State.cfg h.fixed :)
theorem link (h : Touches P s t) : t.link = s.link := (congrArg State.link h.fixed :)
theorem sup (h : Touches P s t) : t.sup = s.sup := (congrArg State.sup h.fixed :)
theorem timeBase (h : Touches P s t) : t.timeBase = s.timeBase := (congrArg State.timeBase h.fixed :)
theorem atn (h : Touches P s t) : t.atn = s.atn := (congrArg State.atn h.fixed :)
theorem ka (h : Touches P s t) : t.ka = s.ka := (congrArg State.ka h.fixed :)
theorem store (h : Touches P s t) : t.store = s.store := (congrArg State.store h.fixed :)
theorem pins (h : Touches P s t) : t.pins = s.pins := (congrArg State.pins h.fixed :)
theorem free (h : Touches P s t) : t.free = s.free := (congrArg State.free h.fixed :)
theorem pending (h : Touches P s t) : t.pending = s.pending := (congrArg State.pending h.fixed :)
theorem conf (h : Touches P s t) (q : Fin 8) : t.conf q = s.conf q := by unfold State.conf; rw [h.cfg]

theorem refl (P : Fin 8 → Prop) (s : State) : Touches P s s :=
  ⟨rfl, fun _ _ => rfl, ⟨[], rfl⟩, ⟨[], by simp, rfl⟩⟩

theorem trans (h : Touches P s t) (k : Touches P t u) : Touches P s u := by
  refine ⟨?_, fun q hq => (k.others q hq).trans (h.others q hq), ?_, ?_⟩
  · have hk := k.fixed
    have hh := h.fixed
    cases s; cases t; cases u
    simp only [State.mk.injEq] at hk hh ⊢
    simp_all
  · obtain ⟨es, he⟩ := h.journal
    obtain ⟨fs, hf⟩ := k.journal
    rw [h.cfg, h.timeBase] at hf
    exact ⟨es ++ fs, by rw [List.foldl_append, ← he, hf]⟩
  · obtain ⟨es, he, ha⟩ := h.attn
    obtain ⟨fs, hf, hb⟩ := k.attn
    refine ⟨es ++ fs, ?_, by rw [List.foldl_append, ← ha, hb]⟩
    intro x hx
    rcases List.mem_append.1 hx with hx | hx
    · exact he x hx
    · exact hf x hx

theorem mono (h : Touches P s t) (hpq : ∀ p, P p → Q p) : Touches Q s t := by
  refine ⟨h.fixed, fun q hq => h.others q (fun hp => hq (hpq q hp)), h.journal, ?_⟩
  obtain ⟨l, hl, ha⟩ := h.attn
  exact ⟨l, fun x hx => hpq _ (hl x hx), ha⟩

theorem ite (c : Prop) [Decidable c] (h : Touches P s t) (k : Touches P s u) : Touches P s (if c then t else u) := by
  split <;> assumption

end Touches

variable (s : State) (p : Fin 8)

/-- Touching one port only. -/
abbrev TouchesPort (p : Fin 8) (s t : State) : Prop := Touches (fun q => q = p) s t

theorem State.modPort_touches (f : Port → Port) : TouchesPort p s (s.modPort p f) :=
  ⟨rfl, fun _ hq => State.modPort_port_of_ne s f hq, ⟨[], rfl⟩, ⟨[], by simp, rfl⟩⟩

theorem State.modEngine_touches (f : Engine → Engine) : TouchesPort p s (s.modEngine p f) := s.modPort_touches p _

theorem State.modLine_touches (f : LineState → LineState) : TouchesPort p s (s.modLine p f) := s.modEngine_touches p _

theorem State.setOut_touches (o : Out) (x : Output) : TouchesPort p s (s.setOut p o x) := s.modPort_touches p _

theorem State.setPortFlag_touches (n : Nat) : TouchesPort p s (s.setPortFlag p n) := s.modPort_touches p _

theorem State.log_touches (P : Fin 8 → Prop) (e : Event) : Touches P s (s.log e) :=
  ⟨rfl, fun _ _ => rfl, ⟨[e], rfl⟩, ⟨[], by simp, rfl⟩⟩

theorem State.logIf_touches (P : Fin 8 → Prop) (c : Bool) (e : Event) : Touches P s (s.logIf c e) := by
  unfold State.logIf; split
  · exact s.log_touches P e
  · exact Touches.refl P s

theorem State.cause_touches (k : Fin 10) : TouchesPort p s (s.cause p k) := by
  unfold State.cause; split
  · exact ⟨rfl, fun _ _ => rfl, ⟨[], rfl⟩, ⟨[(p, k)], by simp, rfl⟩⟩
  · exact Touches.refl _ s

theorem State.causeIf_touches (c : Bool) (k : Fin 10) : TouchesPort p s (s.causeIf c p k) := by
  unfold State.causeIf; split
  · exact s.cause_touches p k
  · exact Touches.refl _ s

/-! ### Outputs and receivers -/

theorem State.engageOut_touches (o : Out) : TouchesPort p s (s.engageOut p o) := s.setOut_touches p o _

theorem State.bringOut_touches (o : Out) : TouchesPort p s (s.bringOut p o) := by
  unfold State.bringOut; split
  · exact s.setOut_touches p o _
  · exact s.engageOut_touches p o

theorem State.reEnable_touches (o : Out) : TouchesPort p s (s.reEnable p o) := by
  unfold State.reEnable; simp only []
  split
  · split
    · exact s.bringOut_touches p o
    · exact Touches.refl _ s
  · split
    · exact Touches.refl _ s
    · exact s.setOut_touches p o _

theorem State.reEnablePort_touches : TouchesPort p s (s.reEnablePort p) :=
  (s.reEnable_touches p .feed).trans ((s.reEnable p .feed).reEnable_touches p .signal)

theorem State.overBegin_touches (o : Out) : TouchesPort p s (s.overBegin p o) := by
  unfold State.overBegin; simp only []
  split
  · exact s.setOut_touches p o _
  · exact Touches.refl _ s

theorem State.overEnd_touches (o : Out) : TouchesPort p s (s.overEnd p o) := by
  unfold State.overEnd; simp only []
  split
  · exact s.setOut_touches p o _
  · exact Touches.refl _ s

theorem State.announceTrip_touches (o : Out) (x : Output) : TouchesPort p s (s.announceTrip p o x) := by
  unfold State.announceTrip; simp only []
  refine Touches.trans (Touches.trans (Touches.trans (Touches.trans ?_ (State.log_touches _ _ _)) (State.logIf_touches _ _ _ _))
    (State.cause_touches _ p 0)) (State.causeIf_touches _ p _ 1)
  split
  · exact (s.setPortFlag_touches p _).trans (State.setPortFlag_touches _ p _)
  · exact s.setPortFlag_touches p _

theorem State.tripOut_touches (o : Out) : TouchesPort p s (s.tripOut p o) := by
  unfold State.tripOut; simp only []
  split
  · exact (s.setOut_touches p o _).trans (State.announceTrip_touches _ p o _)
  · exact Touches.refl _ s

theorem State.restartOut_touches (o : Out) : TouchesPort p s (s.restartOut p o) := by
  unfold State.restartOut; split
  · exact s.engageOut_touches p o
  · exact Touches.refl _ s

theorem State.settleOut_touches (o : Out) : TouchesPort p s (s.settleOut p o) := by
  unfold State.settleOut; simp only []
  split
  · exact s.setOut_touches p o _
  · exact Touches.refl _ s

theorem State.inhibitPort_touches : TouchesPort p s (s.inhibitPort p) := s.modPort_touches p _

theorem State.uninhibitOut_touches (o : Out) : TouchesPort p s (s.uninhibitOut p o) := by
  unfold State.uninhibitOut; split
  · exact s.engageOut_touches p o
  · exact Touches.refl _ s

theorem State.uninhibitPort_touches : TouchesPort p s (s.uninhibitPort p) :=
  (s.uninhibitOut_touches p .feed).trans ((s.uninhibitOut p .feed).uninhibitOut_touches p .signal)

theorem State.releaseOut_touches (o : Out) : TouchesPort p s (s.releaseOut p o) := by
  unfold State.releaseOut; simp only []
  split
  · refine Touches.trans ?_ (State.log_touches _ _ _)
    split
    · exact (s.setOut_touches p o _).trans (State.bringOut_touches _ p o)
    · exact s.setOut_touches p o _
  · exact Touches.refl _ s

theorem State.disablePort_touches : TouchesPort p s (s.disablePort p) := s.modPort_touches p _

theorem State.inputEdge_touches (level : Bool) : TouchesPort p s (s.inputEdge p level) :=
  (s.modPort_touches p _).trans ((State.log_touches _ _ _).trans (State.cause_touches _ p 9))

theorem State.rawChange_touches (level : Bool) : TouchesPort p s (s.rawChange p level) := by
  unfold State.rawChange; simp only []
  split
  · split
    · split
      · exact Touches.refl _ s
      · exact (s.modPort_touches p _).trans ((State.log_touches _ _ _).trans (State.cause_touches _ p 9))
    · split <;> exact s.modPort_touches p _
  · exact Touches.refl _ s

theorem State.debounceEnd_touches : TouchesPort p s (s.debounceEnd p) := by
  unfold State.debounceEnd; simp only []
  split
  · split
    · exact s.modPort_touches p _
    · exact s.inputEdge_touches p _
  · exact Touches.refl _ s

theorem State.receiverAfresh_touches : TouchesPort p s (s.receiverAfresh p) := by
  unfold State.receiverAfresh; exact s.modPort_touches p _

theorem State.receiverFollow_touches (old : Nat) : TouchesPort p s (s.receiverFollow p old) := by
  unfold State.receiverFollow; split
  · exact Touches.refl _ s
  · exact s.receiverAfresh_touches p

/-! ### The request pool -/

theorem State.enqueue_touches (r : Request) : TouchesPort p s (s.enqueue p r) := s.modPort_touches p _

theorem State.completeOk_touches (result : Byte) (reply : List Byte) : TouchesPort p s (s.completeOk p result reply) := by
  unfold State.completeOk; split
  · exact Touches.refl _ s
  · exact (s.modPort_touches p _).trans (State.cause_touches _ p _)

theorem State.completeFailed_touches : TouchesPort p s (s.completeFailed p) := by
  unfold State.completeFailed; split
  · exact Touches.refl _ s
  · exact (s.modPort_touches p _).trans ((State.setPortFlag_touches _ p _).trans
      ((State.log_touches _ _ _).trans (State.cause_touches _ p 6)))

theorem State.abandon_touches : TouchesPort p s (s.abandon p) := by
  unfold State.abandon; simp only []
  split
  · exact Touches.refl _ s
  · exact (s.modPort_touches p _).trans ((State.log_touches _ _ _).trans (State.cause_touches _ p 6))

theorem State.freeHead_touches (n : Fin 32) : TouchesPort p s (s.freeHead p n) := by
  unfold State.freeHead; split
  · split
    · exact s.modPort_touches p _
    · exact Touches.refl _ s
  · exact Touches.refl _ s

theorem State.flush_touches (purge : Bool) : TouchesPort p s (s.flush p purge) := s.modPort_touches p _

/-! ### The line -/

theorem State.setExchange_touches (x : Option Exchange) : TouchesPort p s (s.setExchange p x) := s.modLine_touches p _

theorem State.transmit_touches (x : Exchange) : TouchesPort p s (s.transmit p x) := s.modLine_touches p _

theorem State.beginAttempt_touches (x : Exchange) : TouchesPort p s (s.beginAttempt p x) := by
  unfold State.beginAttempt; split
  · exact s.setExchange_touches p _
  · exact s.transmit_touches p x

theorem State.turnaroundEnd_touches : TouchesPort p s (s.turnaroundEnd p) := by
  unfold State.turnaroundEnd; simp only []
  split
  · split
    · split
      · exact (s.modLine_touches p _).trans (State.transmit_touches _ p _)
      · exact s.modLine_touches p _
    · exact s.modLine_touches p _
  · exact Touches.refl _ s

theorem State.transmissionEnd_touches : TouchesPort p s (s.transmissionEnd p) := by
  unfold State.transmissionEnd
  split
  · split
    · exact Touches.refl _ s
    · exact s.setExchange_touches p _
    · exact (s.modLine_touches p _).trans ((State.transmit_touches _ p _).trans (State.setExchange_touches _ p _))
  · exact Touches.refl _ s

/-! ### The line engines -/

theorem State.detach_touches (r : Reason) : TouchesPort p s (s.detach p r) := by
  unfold State.detach; simp only []
  split
  · exact Touches.refl _ s
  · exact (s.modEngine_touches p _).trans ((State.log_touches _ _ _).trans
      ((State.causeIf_touches _ p _ 3).trans (State.abandon_touches _ p)))

theorem State.lose_touches (r : Reason) (asked : Bool) : TouchesPort p s (s.lose p r asked) := by
  have main (u : State) (h : TouchesPort p s u) : TouchesPort p s ((if asked then u.completeFailed p else u).abandon p) :=
    Touches.trans (Touches.ite _ (h.trans (State.completeFailed_touches _ p)) h) (State.abandon_touches _ p)
  unfold State.lose; simp only []
  exact main _ (Touches.trans (Touches.trans (Touches.trans (s.modEngine_touches p _) (State.setPortFlag_touches _ p _))
    (State.log_touches _ _ _)) (State.cause_touches _ p 3))

theorem State.hold_touches (r : Reason) (value : Byte) : TouchesPort p s (s.hold p r value) := by
  unfold State.hold; simp only []
  exact (s.modEngine_touches p _).trans ((State.setPortFlag_touches _ p _).trans ((State.log_touches _ _ _).trans
    ((State.cause_touches _ p 4).trans (State.abandon_touches _ p))))

theorem State.startWake_touches : TouchesPort p s (s.startWake p) :=
  (s.modEngine_touches p _).trans (State.beginAttempt_touches _ p _)

theorem State.enterWaking_touches : TouchesPort p s (s.enterWaking p) := by
  unfold State.enterWaking; simp only []
  apply Touches.trans (s.modEngine_touches p _)
  split
  · exact Touches.refl _ _
  · exact State.startWake_touches _ p

theorem State.autoBind_touches (triggered : Bool) : TouchesPort p s (s.autoBind p triggered) := by
  unfold State.autoBind; simp only []
  split
  · split
    · exact s.enterWaking_touches p
    · split
      · exact s.modEngine_touches p _
      · exact Touches.refl _ s
  · exact Touches.refl _ s

theorem State.settleDue_touches : TouchesPort p s (s.settleDue p) := by
  unfold State.settleDue; simp only []
  split
  · split
    · split
      · exact s.enterWaking_touches p
      · exact Touches.refl _ s
    · split
      · exact s.enterWaking_touches p
      · split
        · exact Touches.refl _ s
        · exact s.modEngine_touches p _
  · exact Touches.refl _ s

theorem State.wakeFailed_touches : TouchesPort p s (s.wakeFailed p) := by
  unfold State.wakeFailed; simp only []
  apply Touches.trans (s.modEngine_touches p _)
  split
  · split
    · exact State.lose_touches _ p _ _
    · exact State.detach_touches _ p _
  · split
    · exact Touches.refl _ _
    · exact State.startWake_touches _ p

theorem State.spacingEnd_touches : TouchesPort p s (s.spacingEnd p) := by
  unfold State.spacingEnd; simp only []
  split
  · apply Touches.trans (s.modEngine_touches p _)
    split
    · exact Touches.refl _ _
    · exact State.startWake_touches _ p
  · exact Touches.refl _ s

theorem State.rebindEnd_touches : TouchesPort p s (s.rebindEnd p) := by
  unfold State.rebindEnd; simp only []
  split
  · apply Touches.trans (s.modEngine_touches p _)
    split
    · split
      · exact State.enterWaking_touches _ p
      · split
        · exact State.modEngine_touches _ p _
        · exact Touches.refl _ _
    · exact Touches.refl _ _
  · exact Touches.refl _ s

theorem State.startExchange_touches (kind : ExchKind) (parcel : List Byte) :
    TouchesPort p s (s.startExchange p kind parcel) :=
  (s.modLine_touches p _).trans (State.beginAttempt_touches _ p _)

theorem State.startPoll_touches : TouchesPort p s (s.startPoll p) := s.startExchange_touches p _ _

theorem State.startAsk_touches (r : Request) : TouchesPort p s (s.startAsk p r) := s.startExchange_touches p _ _

theorem State.missTick_touches (kind : ExchKind) : TouchesPort p s (s.missTick p kind) := by
  unfold State.missTick; simp only []
  exact (s.modEngine_touches p _).trans ((State.setPortFlag_touches _ p _).trans
    ((State.logIf_touches _ _ _ _).trans (State.cause_touches _ p 8)))

theorem State.takeTick_touches : TouchesPort p s (s.takeTick p) := by
  unfold State.takeTick; simp only []
  apply Touches.trans (s.modEngine_touches p _)
  split
  · exact Touches.refl _ _
  · split
    · exact State.missTick_touches _ p _
    · exact State.startPoll_touches _ p

theorem State.tickEnd_touches : TouchesPort p s (s.tickEnd p) := by
  unfold State.tickEnd; split
  · exact s.takeTick_touches p
  · exact Touches.refl _ s

theorem State.enterPaused_touches : TouchesPort p s (s.enterPaused p) := s.modEngine_touches p _

theorem State.exchangeFailed_touches (kind : ExchKind) : TouchesPort p s (s.exchangeFailed p kind) := by
  have paused (u : State) (h : TouchesPort p s u) (c : Prop) [Decidable c] :
      TouchesPort p s (if c then u.enterPaused p else u) :=
    Touches.ite c (h.trans (State.enterPaused_touches _ p)) h
  unfold State.exchangeFailed; simp only []
  refine Touches.ite _ ((s.modEngine_touches p _).trans (State.lose_touches _ p _ _)) (paused _ ?_ _)
  exact Touches.ite _ ((s.modEngine_touches p _).trans (State.completeFailed_touches _ p)) (s.modEngine_touches p _)

theorem State.attemptFailed_touches (x : Exchange) : TouchesPort p s (s.attemptFailed p x) := by
  unfold State.attemptFailed; split
  · exact s.wakeFailed_touches p
  · split
    · exact (s.modEngine_touches p _).trans (State.beginAttempt_touches _ p _)
    · exact s.exchangeFailed_touches p _

theorem State.windowEnd_touches : TouchesPort p s (s.windowEnd p) := by
  unfold State.windowEnd; split
  · split
    · exact (s.modLine_touches p _).trans (State.attemptFailed_touches _ p _)
    · exact Touches.refl _ s
  · exact Touches.refl _ s

theorem State.enterBound_touches (h : Hello) : TouchesPort p s (s.enterBound p h) := by
  unfold State.enterBound; simp only []
  exact (s.modEngine_touches p _).trans ((State.takeTick_touches _ p).trans
    ((State.log_touches _ _ _).trans (State.cause_touches _ p 2)))

theorem State.helloVersion1_touches (h : Hello) : TouchesPort p s (s.helloVersion1 p h) := by
  unfold State.helloVersion1; simp only []
  apply Touches.trans (s.modEngine_touches p _)
  split
  · exact State.hold_touches _ p _ _
  · split
    · exact State.hold_touches _ p _ _
    · split
      · exact State.hold_touches _ p _ _
      · exact State.enterBound_touches _ p h

theorem State.helloOther_touches (version : Byte) : TouchesPort p s (s.helloOther p version) :=
  (s.modEngine_touches p _).trans (State.hold_touches _ p _ _)

theorem State.chooseInterval_touches : TouchesPort p s (s.chooseInterval p) := by
  unfold State.chooseInterval; split
  · exact s.enterPaused_touches p
  · split
    · exact (s.modPort_touches p _).trans (State.startAsk_touches _ p _)
    · split
      · exact (s.modPort_touches p _).trans (State.startAsk_touches _ p _)
      · exact Touches.refl _ s

theorem State.answerAccepted_touches (image : List Byte) (notice fault : Bool) :
    TouchesPort p s (s.answerAccepted p image notice fault) := by
  unfold State.answerAccepted; simp only []
  refine Touches.trans (Touches.trans (Touches.trans ?_ (State.logIf_touches _ _ _ _)) (State.causeIf_touches _ p _ 5))
    (State.chooseInterval_touches _ p)
  split
  · exact (s.modEngine_touches p _).trans (State.setPortFlag_touches _ p _)
  · exact s.modEngine_touches p _

theorem State.tellAccepted_touches (result : Byte) (data : List Byte) :
    TouchesPort p s (s.tellAccepted p result data) := by
  unfold State.tellAccepted; simp only []
  split
  · exact ((s.modEngine_touches p _).trans (State.completeOk_touches _ p _ _)).trans (State.enterPaused_touches _ p)
  · exact (s.modEngine_touches p _).trans (State.completeOk_touches _ p _ _)

theorem State.handOutcome_touches (a : Accepted) : TouchesPort p s (s.handOutcome p a) := by
  unfold State.handOutcome; split
  · exact s.helloOther_touches p _
  · exact s.helloVersion1_touches p _
  · exact s.answerAccepted_touches p _ _ _
  · exact s.tellAccepted_touches p _ _

theorem State.reception_touches (chars : List LineChar) : TouchesPort p s (s.reception p chars) := by
  unfold State.reception; split
  · split
    · simp only []
      split
      · exact (s.modLine_touches p _).trans (State.handOutcome_touches _ p _)
      · exact (s.modLine_touches p _).trans (State.attemptFailed_touches _ p _)
    · exact Touches.refl _ s
  · exact Touches.refl _ s

theorem State.hushEnd_touches : TouchesPort p s (s.hushEnd p) := by
  unfold State.hushEnd; split
  · simp only []
    apply Touches.trans (s.modLine_touches p _)
    split
    · exact State.startWake_touches _ p
    · exact Touches.refl _ _
  · exact Touches.refl _ s

theorem State.hushFollow_touches : TouchesPort p s (s.hushFollow p) := by
  unfold State.hushFollow; split
  · exact Touches.refl _ s
  · exact s.modLine_touches p _

theorem State.engineFollow_touches (before : Port) : TouchesPort p s (s.engineFollow p before) := by
  unfold State.engineFollow; simp only []
  refine (s.hushFollow_touches p).trans (Touches.trans ?_ (State.settleDue_touches _ p))
  split
  · exact State.detach_touches _ p _
  · split
    · exact State.detach_touches _ p _
    · split
      · exact State.autoBind_touches _ p _
      · exact Touches.refl _ _

theorem State.withOutputs_touches (change : State → State) (h : TouchesPort p s (change s)) :
    TouchesPort p s (s.withOutputs p change) := h.trans (State.engineFollow_touches _ p _)

theorem State.unbind_touches : TouchesPort p s (s.unbind p) := by
  unfold State.unbind; simp only []
  split
  · exact (s.detach_touches p _).trans (State.modLine_touches _ p _)
  · exact s.detach_touches p _

theorem State.pausePort_touches : TouchesPort p s (s.pausePort p) := by
  unfold State.pausePort; split
  · exact s.modEngine_touches p _
  · exact s.enterPaused_touches p

theorem State.resumePort_touches : TouchesPort p s (s.resumePort p) := by
  unfold State.resumePort; split
  · exact (s.modEngine_touches p _).trans (State.takeTick_touches _ p)
  · exact s.modEngine_touches p _

theorem State.clearCounters_touches : TouchesPort p s (s.clearCounters p) := s.modPort_touches p _

/-! ### One port's part of the device's operations -/

theorem State.standbyPort_touches : TouchesPort p s (s.standbyPort p) :=
  (s.disablePort_touches p).trans ((State.hushFollow_touches _ p).trans
    ((State.detach_touches _ p _).trans (State.settleDue_touches _ p)))

theorem State.operatePort_touches : TouchesPort p s (s.operatePort p) :=
  (s.reEnablePort_touches p).trans ((State.autoBind_touches _ p _).trans (State.settleDue_touches _ p))

theorem State.safePort_touches : TouchesPort p s (s.safePort p) := by
  unfold State.safePort; simp only []
  refine (s.reEnablePort_touches p).trans ((State.hushFollow_touches _ p).trans
    (Touches.trans ?_ (State.settleDue_touches _ p)))
  split
  · exact State.detach_touches _ p _
  · exact Touches.refl _ _

theorem State.supplyPort_touches (asserted : Bool) : TouchesPort p s (s.supplyPort asserted p) := by
  have main (u : State) (h : TouchesPort p s u) : TouchesPort p s (((u.hushFollow p).detach p .supply).settleDue p) :=
    h.trans ((State.hushFollow_touches _ p).trans ((State.detach_touches _ p _).trans (State.settleDue_touches _ p)))
  unfold State.supplyPort; simp only []
  exact main _ (Touches.ite _ (s.inhibitPort_touches p) (Touches.refl _ s))

theorem State.reEnableChanged_touches (old : PortConfig) (o : Out) : TouchesPort p s (s.reEnableChanged p old o) := by
  unfold State.reEnableChanged; split
  · exact Touches.refl _ s
  · exact s.reEnable_touches p o

theorem State.portWritten_touches (old : PortConfig) : TouchesPort p s (s.portWritten p old) := by
  have main (u b : State) (x : Port) (h : TouchesPort p s u) (c : Prop) [Decidable c] :
      TouchesPort p s (if c then ((u.hushFollow p).detach p .mode).settleDue p else u.engineFollow p x) :=
    Touches.ite c (h.trans ((State.hushFollow_touches _ p).trans ((State.detach_touches _ p _).trans
      (State.settleDue_touches _ p)))) (h.trans (State.engineFollow_touches _ p x))
  have settled (u : State) (h : TouchesPort p s u) (c : Prop) [Decidable c] :
      TouchesPort p s (if c then (u.autoBind p false).settleDue p else u) :=
    Touches.ite c (h.trans ((State.autoBind_touches _ p _).trans (State.settleDue_touches _ p))) h
  unfold State.portWritten; simp only []
  split
  · exact Touches.refl _ s
  · exact settled _ (main _ s _ ((s.receiverFollow_touches p _).trans ((State.reEnableChanged_touches _ p old .feed).trans
      (State.reEnableChanged_touches _ p old .signal))) _) _

theorem State.releaseOutputs_touches (feed signal : Bool) : TouchesPort p s (s.releaseOutputs p feed signal) := by
  refine s.withOutputs_touches p _ ?_
  refine Touches.trans (t := if feed = true then s.releaseOut p .feed else s) ?_ ?_
  · exact Touches.ite _ (s.releaseOut_touches p .feed) (Touches.refl _ s)
  · exact Touches.ite _ (State.releaseOut_touches _ p .signal) (Touches.refl _ _)

/-! ### All ports in turn -/

/-- Anything may be touched on the ports. -/
abbrev TouchesPorts (s t : State) : Prop := Touches (fun _ => True) s t

theorem State.forPorts_touches (f : Fin 8 → State → State) (h : ∀ p s, TouchesPort p s (f p s)) :
    TouchesPorts s (s.forPorts f) := by
  unfold State.forPorts
  generalize allPorts = l
  induction l generalizing s with
  | nil => exact Touches.refl _ s
  | cons p l ih => exact ((h p s).mono (fun _ _ => trivial)).trans (ih (f p s))

end Sys2Proof.Machine
end

