-- ==== Sys2Proof/Laws/Link.lean ====
section
/-! SUPPORT. The frame pipeline: what a frame sent without error becomes, once for all commands. -/

namespace Sys2Proof.Machine

@[simp] theorem State.dropFrame_conf (s : State) (p : Fin 8) : s.dropFrame.conf p = s.conf p := rfl
@[simp] theorem State.dropFrame_port (s : State) (p : Fin 8) : s.dropFrame.port p = s.port p := rfl
@[simp] theorem State.dropFrame_engine (s : State) (p : Fin 8) : s.dropFrame.engine p = s.engine p := rfl
@[simp] theorem State.dropFrame_mode (s : State) : s.dropFrame.mode = s.mode := rfl
@[simp] theorem State.dropFrame_store (s : State) : s.dropFrame.store = s.store := rfl
@[simp] theorem State.dropFrame_ka (s : State) : s.dropFrame.ka = s.ka := rfl
@[simp] theorem State.dropFrame_cfg (s : State) : s.dropFrame.cfg = s.cfg := rfl
@[simp] theorem State.dropFrame_unit (s : State) : s.dropFrame.link.unit = s.link.unit := rfl
@[simp] theorem State.dropFrame_confirm (s : State) : s.dropFrame.link.confirm = s.link.confirm := rfl
@[simp] theorem State.dropFrame_journal (s : State) : s.dropFrame.journal = s.journal := rfl

/-- The end of the frame before changes no command's preconditions. -/
@[simp] theorem Command.check_dropFrame (c : Command) (s : State) : c.check s.dropFrame = c.check s := by
  cases c <;> rfl

/-- A request of a legal kind and LENGTH keeps its payload (R1). -/
theorem requestOf_legal (f : FrameHead) (kind : BitVec 3) (payload : List Byte) (hk : headerLegal kind 0#2 = true)
    (hl : lengthLegal kind payload.length = true) :
    requestOf f kind payload = ⟨kind, f.unit, 0#2, f.tag, byteOf payload.length, payload, f.check⟩ ∧
      (byteOf payload.length).toNat = payload.length ∧ lengthByte payload = byteOf payload.length := by
  have hn : payload.length ≤ 32 := by
    unfold lengthLegal at hl
    split at hl <;> simp at hl <;> omega
  have hb : lengthByte payload = byteOf payload.length := by unfold lengthByte; rw [Nat.min_eq_left (by omega)]
  have ht : (byteOf payload.length).toNat = payload.length := by
    unfold byteOf; rw [BitVec.toNat_ofNat]; exact Nat.mod_eq_of_lt (by omega)
  refine ⟨?_, ht, hb⟩
  unfold requestOf
  rw [hb, ht, hk, hl]
  rfl

/-- A frame sent without error is judged by its payload alone (steps 5 to 14 of R10). -/
theorem State.judge_sent {s : State} {f : FrameHead} {kind : BitVec 3} {payload : List Byte}
    (hk : headerLegal kind 0#2 = true) (hl : lengthLegal kind payload.length = true) (hf : Fits f s kind payload) :
    s.dropFrame.judge (requestOf f kind payload) = s.dropFrame.judgePayload kind.toNat payload := by
  obtain ⟨hr, ht, hb⟩ := requestOf_legal f kind payload hk hl
  obtain ⟨hu, hc⟩ := hf
  rw [hb] at hc
  rw [hr]
  unfold State.judge
  simp only [hk, ht, hl, Bool.not_true, Bool.false_eq_true, if_false, State.dropFrame_unit, hu, ne_eq, not_true_eq_false]
  rw [if_neg]
  rw [Classical.not_not, hc, hu]
  rfl

/-- A frame accepted (R13). -/
theorem takeFrame_accept {s : State} {f : FrameHead} {kind : BitVec 3} {payload : List Byte} {a : Action}
    (hk : headerLegal kind 0#2 = true) (hl : lengthLegal kind payload.length = true) (h : Sent s f kind payload)
    (ha : s.dropFrame.judgePayload kind.toNat payload = .accept a) :
    takeFrame (requestOf f kind payload) s = .next ((s.dropFrame.accept (requestOf f kind payload) a).finish) := by
  obtain ⟨⟨hr, hm⟩, hf⟩ := h
  unfold takeFrame takeEvent State.frame
  simp only [hr, Option.isSome_none, Bool.false_eq_true, if_false, State.dropFrame_mode, hm,
    State.judge_sent hk hl hf, ha]

/-- A frame refused (R12, R20). -/
theorem takeFrame_refuse {s : State} {f : FrameHead} {kind : BitVec 3} {payload : List Byte} {why : Refused}
    (hk : headerLegal kind 0#2 = true) (hl : lengthLegal kind payload.length = true) (h : Sent s f kind payload)
    (ha : s.dropFrame.judgePayload kind.toNat payload = .reject why false) :
    takeFrame (requestOf f kind payload) s = .next (s.rejected kind f.tag why.code why.address).finish := by
  obtain ⟨⟨hr, hm⟩, hf⟩ := h
  obtain ⟨hq, -, -⟩ := requestOf_legal f kind payload hk hl
  unfold takeFrame takeEvent State.frame
  simp only [hr, Option.isSome_none, Bool.false_eq_true, if_false, State.dropFrame_mode, hm,
    State.judge_sent hk hl hf, ha, State.refuse]
  rw [hq]
  rfl

/-- The record of an accepted frame that is recorded (R17). -/
theorem Done.close_recorded {d : Done} (f : FrameHead) (kind : BitVec 3) (payload : List Byte)
    (hk : headerLegal kind 0#2 = true) (hl : lengthLegal kind payload.length = true) (hd : d.recorded = true) :
    d.close (requestOf f kind payload) = d.state.answered f kind d.status d.payload d.delivery := by
  obtain ⟨hq, -, -⟩ := requestOf_legal f kind payload hk hl
  unfold Done.close
  rw [hd, hq]
  rfl

theorem kindIssue_legal : headerLegal kindIssue 0#2 = true := by decide
theorem kindFetch_legal : headerLegal kindFetch 0#2 = true := by decide
theorem kindPost_legal : headerLegal kindPost 0#2 = true := by decide
theorem kindRead_legal : headerLegal kindRead 0#2 = true := by decide
theorem kindWrite_legal : headerLegal kindWrite 0#2 = true := by decide

theorem issue_length {code : Byte} {args : List Byte} (h : args.length ≤ 7) :
    lengthLegal kindIssue (code :: args).length = true := by
  simp [lengthLegal, kindIssue]; omega

/-- A command that runs at once (R7): its effect on the state begun, and its record and reply. -/
theorem issue_run {s : State} {f : FrameHead} {code : Byte} {args : List Byte} {c : Command}
    (h : Issued s f code args) (hn : args.length ≤ 7) (hp : parseCommand code args = .ok c)
    (hc : ∀ x y, c ≠ .confirm x y) (hf : c.confirmed = false) (hk : c.check s = none) (hd : (c.run s.begun).recorded = true) :
    takeFrame (issueFrame f code args) s =
      .next (((c.run s.begun).state.answered f kindIssue (c.run s.begun).status (c.run s.begun).payload
        (c.run s.begun).delivery).finish) := by
  have hj : s.dropFrame.judgePayload kindIssue.toNat (code :: args) = .accept (.run c) := by
    show s.dropFrame.judgeIssue code args = _
    unfold State.judgeIssue
    rw [hp]
    cases c <;> first
      | exact absurd rfl (hc _ _)
      | (simp only [Command.check_dropFrame, hk, hf, acceptUnlessCode]; rfl)
  unfold issueFrame
  rw [takeFrame_accept kindIssue_legal (issue_length hn) h hj]
  unfold State.accept
  show Host.Outcome.next ((Done.close (c.run s.begun) _).finish) = _
  rw [Done.close_recorded f kindIssue _ kindIssue_legal (issue_length hn) hd]

/-- The first step of a confirmed command (R21): only a record is left. -/
theorem issue_pend {s : State} {f : FrameHead} {code : Byte} {args : List Byte} {c : Command}
    (h : Issued s f code args) (hn : args.length ≤ 7) (hp : parseCommand code args = .ok c)
    (hf : c.confirmed = true) (hk : c.check s = none) :
    takeFrame (issueFrame f code args) s =
      .next (((s.begun.modLink (fun l => { l with confirm := some ⟨code, args, f.tag⟩ })).answered f kindIssue stAwaiting []
        .nothing).finish) := by
  have hj : s.dropFrame.judgePayload kindIssue.toNat (code :: args) = .accept (.pend code args) := by
    show s.dropFrame.judgeIssue code args = _
    unfold State.judgeIssue
    rw [hp]
    cases c <;> first
      | exact absurd hf Bool.false_ne_true
      | (simp only [Command.check_dropFrame, hk, hf, acceptUnlessCode]; rfl)
  unfold issueFrame
  rw [takeFrame_accept kindIssue_legal (issue_length hn) h hj]
  obtain ⟨hq, -, -⟩ := requestOf_legal f kindIssue (code :: args) kindIssue_legal (issue_length hn)
  rw [hq]
  rfl

/-- A command refused at steps 8 to 10 (R7). -/
theorem issue_refused {s : State} {f : FrameHead} {code why : Byte} {args : List Byte} {c : Command}
    (h : Issued s f code args) (hn : args.length ≤ 7) (hp : parseCommand code args = .ok c)
    (hc : ∀ x y, c ≠ .confirm x y) (hk : c.check s = some why) :
    takeFrame (issueFrame f code args) s = .next (s.rejected kindIssue f.tag why 0#16).finish := by
  have hj : s.dropFrame.judgePayload kindIssue.toNat (code :: args) = .reject ⟨why, 0#16⟩ false := by
    show s.dropFrame.judgeIssue code args = _
    unfold State.judgeIssue
    rw [hp]
    cases c <;> first
      | exact absurd rfl (hc _ _)
      | (simp only [Command.check_dropFrame, hk, acceptUnlessCode, rejectWith])
  unfold issueFrame
  rw [takeFrame_refuse kindIssue_legal (issue_length hn) h hj]

/-- A command whose bytes are refused at step 8 (R7). -/
theorem issue_unparsed {s : State} {f : FrameHead} {code why : Byte} {args : List Byte}
    (h : Issued s f code args) (hn : args.length ≤ 7) (hp : parseCommand code args = .refused why) :
    takeFrame (issueFrame f code args) s = .next (s.rejected kindIssue f.tag why 0#16).finish := by
  have hj : s.dropFrame.judgePayload kindIssue.toNat (code :: args) = .reject ⟨why, 0#16⟩ false := by
    show s.dropFrame.judgeIssue code args = _
    unfold State.judgeIssue
    rw [hp]
    rfl
  unfold issueFrame
  rw [takeFrame_refuse kindIssue_legal (issue_length hn) h hj]

end Sys2Proof.Machine
end

