-- ==== Sys2Proof/Laws/Exec.lean ====
section
/-! SUPPORT. What every command is: a frame, an event or a pin event, one equation each, and what those become outside a reset
interval. -/

namespace Sys2Proof.Machine

/-- An event outside a reset interval. -/
theorem takeEvent_awake {s : State} {f : State → State} (h : s.resetLine = none) : takeEvent f s = .next (f s).finish := by
  unfold takeEvent; rw [h]; rfl

/-- An event during a reset interval. -/
theorem takeEvent_asleep {s : State} {f : State → State} (h : s.resetLine ≠ none) : takeEvent f s = .next s := by
  unfold takeEvent; rw [if_pos (by cases hs : s.resetLine <;> simp_all)]

/-- A pin event outside a reset interval. -/
theorem takePinEvent_awake {s : State} {g : Pins → Pins} {f : State → State} (h : s.resetLine = none) :
    takePinEvent (fun s => s.modPins g) f s = .next (f (s.modPins g)).finish := by
  unfold takePinEvent; rw [if_neg]; simp [State.modPins, h]

/-- A pin event during a reset interval: only the pin changes. -/
theorem takePinEvent_asleep {s : State} {g : Pins → Pins} {f : State → State} (h : s.resetLine ≠ none) :
    takePinEvent (fun s => s.modPins g) f s = .next (s.modPins g) := by
  unfold takePinEvent; rw [if_pos]; cases hs : s.resetLine <;> simp_all [State.modPins]

theorem exec_write (f : FrameHead) (entries : List WriteEntry) (s : State) :
    exec (.write f entries) s =
      takeFrame (requestOf f kindWrite (entryBytes entries)) s := rfl
theorem exec_signalModeChange (f : FrameHead) (p : Fin 8) (value : Word) (s : State) :
    exec (.signalModeChange f p value) s =
      takeFrame (writeOne f (portAddress p 0) value) s := rfl
theorem exec_feedEnableChange (f : FrameHead) (p : Fin 8) (value : Word) (s : State) :
    exec (.feedEnableChange f p value) s =
      takeFrame (writeOne f (portAddress p 0) value) s := rfl
theorem exec_driveLevelChange (f : FrameHead) (p : Fin 8) (value : Word) (s : State) :
    exec (.driveLevelChange f p value) s =
      takeFrame (writeOne f (portAddress p 0) value) s := rfl
theorem exec_autoBindSet (f : FrameHead) (p : Fin 8) (value : Word) (s : State) :
    exec (.autoBindSet f p value) s =
      takeFrame (writeOne f (portAddress p 0) value) s := rfl
theorem exec_attnPriorityWrite (f : FrameHead) (r : Fin 4) (value : Word) (s : State) :
    exec (.attnPriorityWrite f r value) s =
      takeFrame (writeOne f (BitVec.ofNat 16 (0x028 + r.val)) value) s := rfl
theorem exec_attnFloorWrite (f : FrameHead) (value : Word) (s : State) :
    exec (.attnFloorWrite f value) s =
      takeFrame (writeOne f 0x0022#16 value) s := rfl
theorem exec_startingFrame (mosi : List Byte) (s : State) :
    exec (.startingFrame mosi) s =
      takeEvent (fun s => s.bytes mosi) s := rfl
theorem exec_runt (mosi : List Byte) (s : State) : exec (.runt mosi) s = takeEvent (fun s => s.bytes mosi) s := rfl
theorem exec_requestPhaseTimeout (mosi : List Byte) (s : State) :
    exec (.requestPhaseTimeout mosi) s =
      takeEvent (fun s => s.stall mosi) s := rfl
theorem exec_replyCut (s : State) : exec .replyCut s = takeEvent State.cutReply s := rfl
theorem exec_fetchPortStream (f : FrameHead) (selector : Byte) (s : State) :
    exec (.fetchPortStream f selector) s =
      takeFrame (fetchFrame f selector) s := rfl
theorem exec_fetchPortCommit (s : State) : exec .fetchPortCommit s = takeEvent State.commitSlot s := rfl
theorem exec_fetchJournal (f : FrameHead) (s : State) :
    exec (.fetchJournal f) s =
      takeFrame (fetchFrame f (selectorOf 8#4)) s := rfl
theorem exec_fetchJournalCommit (s : State) : exec .fetchJournalCommit s = takeEvent State.commitEntry s := rfl
theorem exec_claim (f : FrameHead) (s : State) : exec (.claim f) s = takeFrame (fetchFrame f (selectorOf 9#4)) s := rfl
theorem exec_claimCommit (s : State) : exec .claimCommit s = takeEvent State.commitClaim s := rfl
theorem exec_post (f : FrameHead) (selector hostTag op : Byte) (index : Word) (subindex : Byte) (data : List Byte) (s : State) :
    exec (.post f selector hostTag op index subindex data) s =
      takeFrame (requestOf f kindPost ([selector, hostTag, op] ++ wordBytes index ++ [subindex] ++ data)) s := rfl
theorem exec_confirm (f : FrameHead) (args : List Byte) (s : State) :
    exec (.confirm f args) s =
      takeFrame (issueFrame f 0x01#8 args) s := rfl
theorem exec_confirmLapsed (s : State) : exec .confirmLapsed s = takeEvent (fun s => s.lapse 2#8) s := rfl
theorem exec_clearLinkFault (f : FrameHead) (args : List Byte) (s : State) :
    exec (.clearLinkFault f args) s =
      takeFrame (issueFrame f 0x02#8 args) s := rfl
theorem exec_noop (f : FrameHead) (args : List Byte) (s : State) :
    exec (.noop f args) s =
      takeFrame (issueFrame f 0x03#8 args) s := rfl
theorem exec_goOperate (f : FrameHead) (args : List Byte) (s : State) :
    exec (.goOperate f args) s =
      takeFrame (issueFrame f 0x08#8 args) s := rfl
theorem exec_goStandby (f : FrameHead) (args : List Byte) (s : State) :
    exec (.goStandby f args) s =
      takeFrame (issueFrame f 0x09#8 args) s := rfl
theorem exec_enterSafe (f : FrameHead) (args : List Byte) (s : State) :
    exec (.enterSafe f args) s =
      takeFrame (issueFrame f 0x0A#8 args) s := rfl
theorem exec_resume (f : FrameHead) (args : List Byte) (s : State) :
    exec (.resume f args) s =
      takeFrame (issueFrame f 0x0B#8 args) s := rfl
theorem exec_clearConditions (f : FrameHead) (args : List Byte) (s : State) :
    exec (.clearConditions f args) s =
      takeFrame (issueFrame f 0x0C#8 args) s := rfl
theorem exec_releaseOutput (f : FrameHead) (args : List Byte) (s : State) :
    exec (.releaseOutput f args) s =
      takeFrame (issueFrame f 0x10#8 args) s := rfl
theorem exec_overcurrentBegin (p : Fin 8) (o : Load) (s : State) :
    exec (.overcurrentBegin p o) s =
      if (s.withLoad p o.out o.milliamps).overloaded p o.out then
        takePinEvent (fun s => s.modPins (fun x => x.setLoad p o.out o.milliamps)) (fun s => s.overBegin p o.out) s
      else takeEvent id s := rfl
theorem exec_overcurrentEnd (p : Fin 8) (o : Load) (s : State) :
    exec (.overcurrentEnd p o) s =
      if (s.withLoad p o.out o.milliamps).overloaded p o.out then takeEvent id s
      else
        takePinEvent (fun s => s.modPins (fun x => x.setLoad p o.out o.milliamps))
          (fun s => s.withOutputs p (fun s => s.overEnd p o.out)) s := rfl
theorem exec_trip (p : Fin 8) (o : Out) (s : State) :
    exec (.trip p o) s =
      takeEvent (fun s => s.withOutputs p (fun s => s.tripOut p o)) s := rfl
theorem exec_restart (p : Fin 8) (o : Out) (s : State) :
    exec (.restart p o) s =
      takeEvent (fun s => s.withOutputs p (fun s => s.restartOut p o)) s := rfl
theorem exec_settle (p : Fin 8) (o : Out) (s : State) : exec (.settle p o) s = takeEvent (fun s => s.settleOut p o) s := rfl
theorem exec_rawLevelChange (p : Fin 8) (level : Bool) (s : State) :
    exec (.rawLevelChange p level) s =
      takePinEvent (fun s => s.modPins (fun x => x.setRaw p level)) (fun t => if level = s.pins.raw.get p then t else t.rawChange p level) s := rfl
theorem exec_debounceExpiry (p : Fin 8) (s : State) :
    exec (.debounceExpiry p) s =
      takeEvent (fun s => s.debounceEnd p) s := rfl
theorem exec_fieldFallBelowLow (s : State) :
    exec .fieldFallBelowLow s =
      takePinEvent (fun s => s.modPins (fun x => x.setField false)) State.fieldFallsLow s := rfl
theorem exec_fieldFallToHigh (s : State) :
    exec .fieldFallToHigh s =
      takePinEvent (fun s => s.modPins (fun x => x.setField false)) State.fieldFalls s := rfl
theorem exec_fieldRiseAboveHigh (s : State) :
    exec .fieldRiseAboveHigh s =
      takePinEvent (fun s => s.modPins (fun x => x.setField true)) State.fieldRises s := rfl
theorem exec_restoreSettleExpiry (s : State) : exec .restoreSettleExpiry s = takeEvent State.fieldRestored s := rfl
theorem exec_thermalRise (s : State) : exec .thermalRise s = takeEvent State.dieHeats s := rfl
theorem exec_thermalFall (s : State) : exec .thermalFall s = takeEvent State.dieCools s := rfl
theorem exec_endOfTransmission (p : Fin 8) (s : State) :
    exec (.endOfTransmission p) s =
      takeEvent (fun s => s.transmissionEnd p) s := rfl
theorem exec_hushSent (p : Fin 8) (s : State) : exec (.hushSent p) s = takeEvent (fun s => s.hushEnd p) s := rfl
theorem exec_turnaroundExpiry (p : Fin 8) (s : State) :
    exec (.turnaroundExpiry p) s =
      takeEvent (fun s => s.turnaroundEnd p) s := rfl
theorem exec_answerWindowExpiry (p : Fin 8) (s : State) :
    exec (.answerWindowExpiry p) s =
      takeEvent (fun s => s.windowEnd p) s := rfl
theorem exec_parcelReception (p : Fin 8) (chars : List LineChar) (s : State) :
    exec (.parcelReception p chars) s =
      takeEvent (fun s => s.reception p chars) s := rfl
theorem exec_tick (p : Fin 8) (s : State) : exec (.tick p) s = takeEvent (fun s => s.tickEnd p) s := rfl
theorem exec_wakeSpacingExpiry (p : Fin 8) (s : State) :
    exec (.wakeSpacingExpiry p) s =
      takeEvent (fun s => s.spacingEnd p) s := rfl
theorem exec_rebindDelayExpiry (p : Fin 8) (s : State) :
    exec (.rebindDelayExpiry p) s =
      takeEvent (fun s => s.rebindEnd p) s := rfl
theorem exec_bind (f : FrameHead) (args : List Byte) (s : State) :
    exec (.bind f args) s =
      takeFrame (issueFrame f 0x18#8 args) s := rfl
theorem exec_unbind (f : FrameHead) (args : List Byte) (s : State) :
    exec (.unbind f args) s =
      takeFrame (issueFrame f 0x19#8 args) s := rfl
theorem exec_pause (f : FrameHead) (args : List Byte) (s : State) :
    exec (.pause f args) s =
      takeFrame (issueFrame f 0x1A#8 args) s := rfl
theorem exec_resumePort (f : FrameHead) (args : List Byte) (s : State) :
    exec (.resumePort f args) s =
      takeFrame (issueFrame f 0x1B#8 args) s := rfl
theorem exec_clearCounters (f : FrameHead) (args : List Byte) (s : State) :
    exec (.clearCounters f args) s =
      takeFrame (issueFrame f 0x1C#8 args) s := rfl
theorem exec_flush (f : FrameHead) (args : List Byte) (s : State) :
    exec (.flush f args) s =
      takeFrame (issueFrame f 0x1D#8 args) s := rfl
theorem exec_journalClear (f : FrameHead) (args : List Byte) (s : State) :
    exec (.journalClear f args) s =
      takeFrame (issueFrame f 0x20#8 args) s := rfl
theorem exec_journalMark (f : FrameHead) (args : List Byte) (s : State) :
    exec (.journalMark f args) s =
      takeFrame (issueFrame f 0x21#8 args) s := rfl
theorem exec_releaseAttention (f : FrameHead) (args : List Byte) (s : State) :
    exec (.releaseAttention f args) s =
      takeFrame (issueFrame f 0x24#8 args) s := rfl
theorem exec_dismiss (f : FrameHead) (args : List Byte) (s : State) :
    exec (.dismiss f args) s =
      takeFrame (issueFrame f 0x25#8 args) s := rfl
theorem exec_kaArm (f : FrameHead) (args : List Byte) (s : State) :
    exec (.kaArm f args) s =
      takeFrame (issueFrame f 0x28#8 args) s := rfl
theorem exec_kaDisarm (f : FrameHead) (args : List Byte) (s : State) :
    exec (.kaDisarm f args) s =
      takeFrame (issueFrame f 0x29#8 args) s := rfl
theorem exec_kaRefresh (f : FrameHead) (args : List Byte) (s : State) :
    exec (.kaRefresh f args) s =
      takeFrame (issueFrame f 0x2A#8 args) s := rfl
theorem exec_kaWarning (s : State) : exec .kaWarning s = takeEvent State.kaWarn s := rfl
theorem exec_kaExpired (s : State) : exec .kaExpired s = takeEvent State.kaExpire s := rfl
theorem exec_storeLoadComplete (s : State) : exec .storeLoadComplete s = takeEvent State.endStartup s := rfl
theorem exec_storeCommit (f : FrameHead) (args : List Byte) (s : State) :
    exec (.storeCommit f args) s =
      takeFrame (issueFrame f 0x30#8 args) s := rfl
theorem exec_eraseComplete (ok : Bool) (s : State) : exec (.eraseComplete ok) s = takeEvent (fun s => s.eraseEnd ok) s := rfl
theorem exec_programComplete (ok : Bool) (s : State) :
    exec (.programComplete ok) s =
      takeEvent (fun s => s.programEnd ok) s := rfl
theorem exec_verifyComplete (ok : Bool) (s : State) :
    exec (.verifyComplete ok) s =
      takeEvent (fun s => s.verifyEnd ok) s := rfl
theorem exec_storeRead (f : FrameHead) (args : List Byte) (s : State) :
    exec (.storeRead f args) s =
      takeFrame (issueFrame f 0x31#8 args) s := rfl
theorem exec_storeDefaults (f : FrameHead) (args : List Byte) (s : State) :
    exec (.storeDefaults f args) s =
      takeFrame (issueFrame f 0x32#8 args) s := rfl
theorem exec_softReset (f : FrameHead) (args : List Byte) (s : State) :
    exec (.softReset f args) s =
      takeFrame (issueFrame f 0x38#8 args) s := rfl
theorem exec_portReset (f : FrameHead) (args : List Byte) (s : State) :
    exec (.portReset f args) s =
      takeFrame (issueFrame f 0x39#8 args) s := rfl
theorem exec_resetInterval (line : ResetLine) (s : State) : exec (.resetInterval line) s = .next (s.beginReset line) := rfl
theorem exec_deviceResetStep (sample : Sample) (s : State) :
    exec (.deviceResetStep sample) s =
      .next (s.endReset sample).finish := rfl
theorem exec_read (f : FrameHead) (start : Word) (count : Byte) (s : State) :
    exec (.read f start count) s =
      takeFrame (requestOf f kindRead (wordBytes start ++ [count])) s := rfl
theorem exec_reject (mosi : List Byte) (s : State) : exec (.reject mosi) s = takeEvent (fun s => s.bytes mosi) s := rfl

end Sys2Proof.Machine
end

