-- ==== Sys2Proof/WellFormed.lean ====
section
/-! DEFINITION. Which commands can be sent at all: the sizes and selectors that the frame and parcel formats allow. The
meanings do not rest on it: a command that is not well formed still gets the answer the spec gives its bytes. -/

namespace Sys2Proof

/-- A selector byte that names a port stream (R4): the high four bits are the ones' complement of the low four, and the low
four are below 8. -/
def portSelectorWf (selector : Byte) : Bool :=
  let low := selector &&& 0x0F#8
  (selector >>> 4 == 0x0F#8 - low) && low.toNat < 8

/-- A frame is at most 36 bytes long (section 1.1). -/
def mosiWf (mosi : List Byte) : Bool := mosi.length ≤ 36

/-- An ISSUE carries 0 to 7 argument bytes (section 1.2). -/
def argsWf (args : List Byte) : Bool := args.length ≤ 7

/-- The well-formed commands. -/
def Instr.wf : Instr → Bool
  | .write _ entries => 1 ≤ entries.length && entries.length ≤ 8
  | .signalModeChange _ _ _ => true
  | .feedEnableChange _ _ _ => true
  | .driveLevelChange _ _ _ => true
  | .autoBindSet _ _ _ => true
  | .attnPriorityWrite _ _ _ => true
  | .attnFloorWrite _ _ => true
  | .startingFrame mosi => mosiWf mosi && 4 ≤ mosi.length
  | .runt mosi => mosiWf mosi && 1 ≤ mosi.length
  | .requestPhaseTimeout mosi => mosiWf mosi
  | .replyCut => true
  | .fetchPortStream _ selector => portSelectorWf selector
  | .fetchPortCommit => true
  | .fetchJournal _ => true
  | .fetchJournalCommit => true
  | .claim _ => true
  | .claimCommit => true
  | .post _ selector _ _ _ _ data => portSelectorWf selector && data.length ≤ 24
  | .confirm _ args => argsWf args
  | .confirmLapsed => true
  | .clearLinkFault _ args => argsWf args
  | .noop _ args => argsWf args
  | .goOperate _ args => argsWf args
  | .goStandby _ args => argsWf args
  | .enterSafe _ args => argsWf args
  | .resume _ args => argsWf args
  | .clearConditions _ args => argsWf args
  | .releaseOutput _ args => argsWf args
  | .overcurrentBegin _ _ => true
  | .overcurrentEnd _ _ => true
  | .trip _ _ => true
  | .restart _ _ => true
  | .settle _ _ => true
  | .rawLevelChange _ _ => true
  | .debounceExpiry _ => true
  | .fieldFallBelowLow => true
  | .fieldFallToHigh => true
  | .fieldRiseAboveHigh => true
  | .restoreSettleExpiry => true
  | .thermalRise => true
  | .thermalFall => true
  | .endOfTransmission _ => true
  | .hushSent _ => true
  | .turnaroundExpiry _ => true
  | .answerWindowExpiry _ => true
  | .parcelReception _ chars => 1 ≤ chars.length && chars.length ≤ 32
  | .tick _ => true
  | .wakeSpacingExpiry _ => true
  | .rebindDelayExpiry _ => true
  | .bind _ args => argsWf args
  | .unbind _ args => argsWf args
  | .pause _ args => argsWf args
  | .resumePort _ args => argsWf args
  | .clearCounters _ args => argsWf args
  | .flush _ args => argsWf args
  | .journalClear _ args => argsWf args
  | .journalMark _ args => argsWf args
  | .releaseAttention _ args => argsWf args
  | .dismiss _ args => argsWf args
  | .kaArm _ args => argsWf args
  | .kaDisarm _ args => argsWf args
  | .kaRefresh _ args => argsWf args
  | .kaWarning => true
  | .kaExpired => true
  | .storeLoadComplete => true
  | .storeCommit _ args => argsWf args
  | .eraseComplete _ => true
  | .programComplete _ => true
  | .verifyComplete _ => true
  | .storeRead _ args => argsWf args
  | .storeDefaults _ args => argsWf args
  | .softReset _ args => argsWf args
  | .portReset _ args => argsWf args
  | .resetInterval _ => true
  | .deviceResetStep _ => true
  | .read _ _ _ => true
  | .reject mosi => mosiWf mosi && 4 ≤ mosi.length

end Sys2Proof
end

