-- ==== Sys2Proof/Laws/PerInstr.lean ====
section
/-! SUPPORT. Claims about every command, made constructor by constructor. -/

namespace Sys2Proof.Laws.FrameSize

open Sys2Proof.Machine

/-- A well-formed command that is one host frame is sent in 4 to 36 bytes (section 1.1). -/
def Statement (i : Instr) : Prop := ∀ bytes, i.wf = true → frameOf i = some bytes → 4 ≤ bytes.length ∧ bytes.length ≤ 36

/-- A frame's bytes are its payload and four more. -/
theorem frameBytes_length (f : FrameHead) (kind : BitVec 3) (payload : List Byte) :
    (frameBytes f kind payload).length = payload.length + 4 := by
  simp [frameBytes]

/-- A frame with a payload of at most 32 bytes. -/
theorem of_payload {i : Instr} {f : FrameHead} {kind : BitVec 3} {payload : List Byte}
    (h : frameOf i = some (frameBytes f kind payload)) (hp : i.wf = true → payload.length ≤ 32) : Statement i := by
  intro bytes hw hb
  rw [h] at hb
  cases hb
  have := hp hw
  rw [frameBytes_length]
  omega

/-- A command that is no frame. -/
theorem of_none {i : Instr} (h : frameOf i = none) : Statement i := by
  intro bytes _ hb
  rw [h] at hb
  cases hb

theorem entryBytes_length (entries : List WriteEntry) : (entryBytes entries).length = 4 * entries.length := by
  induction entries with
  | nil => rfl
  | cons e rest ih =>
    simp only [entryBytes, List.flatMap_cons, List.length_append, wordBytes, List.length_cons, List.length_nil] at ih ⊢
    omega

/-- An ISSUE with the argument bytes that section 1.2 allows. -/
theorem of_issue {i : Instr} {f : FrameHead} {code : Byte} {args : List Byte}
    (h : frameOf i = some (frameBytes f kindIssue (code :: args))) (hp : i.wf = argsWf args) : Statement i := by
  refine of_payload h (fun hw => ?_)
  rw [hp] at hw
  simp only [argsWf, decide_eq_true_eq] at hw
  simp only [List.length_cons]
  omega


theorem write (f : FrameHead) (entries : List WriteEntry) : Statement (.write f entries) :=
  of_payload rfl (fun h => by
    simp only [Instr.wf, Bool.and_eq_true, decide_eq_true_eq] at h
    rw [entryBytes_length]
    omega)

theorem signalModeChange (f : FrameHead) (p : Fin 8) (value : Word) : Statement (.signalModeChange f p value) :=
  of_payload rfl (fun _ => by simp [entryBytes_length])

theorem feedEnableChange (f : FrameHead) (p : Fin 8) (value : Word) : Statement (.feedEnableChange f p value) :=
  of_payload rfl (fun _ => by simp [entryBytes_length])

theorem driveLevelChange (f : FrameHead) (p : Fin 8) (value : Word) : Statement (.driveLevelChange f p value) :=
  of_payload rfl (fun _ => by simp [entryBytes_length])

theorem autoBindSet (f : FrameHead) (p : Fin 8) (value : Word) : Statement (.autoBindSet f p value) :=
  of_payload rfl (fun _ => by simp [entryBytes_length])

theorem attnPriorityWrite (f : FrameHead) (r : Fin 4) (value : Word) : Statement (.attnPriorityWrite f r value) :=
  of_payload rfl (fun _ => by simp [entryBytes_length])

theorem attnFloorWrite (f : FrameHead) (value : Word) : Statement (.attnFloorWrite f value) :=
  of_payload rfl (fun _ => by simp [entryBytes_length])

theorem startingFrame (mosi : List Byte) : Statement (.startingFrame mosi) := of_none rfl

theorem runt (mosi : List Byte) : Statement (.runt mosi) := of_none rfl

theorem requestPhaseTimeout (mosi : List Byte) : Statement (.requestPhaseTimeout mosi) := of_none rfl

theorem replyCut : Statement .replyCut := of_none rfl

theorem fetchPortStream (f : FrameHead) (selector : Byte) : Statement (.fetchPortStream f selector) :=
  of_payload rfl (fun _ => by simp)

theorem fetchPortCommit : Statement .fetchPortCommit := of_none rfl

theorem fetchJournal (f : FrameHead) : Statement (.fetchJournal f) :=
  of_payload rfl (fun _ => by simp)

theorem fetchJournalCommit : Statement .fetchJournalCommit := of_none rfl

theorem claim (f : FrameHead) : Statement (.claim f) :=
  of_payload rfl (fun _ => by simp)

theorem claimCommit : Statement .claimCommit := of_none rfl

theorem post (f : FrameHead) (selector hostTag op : Byte) (index : Word) (subindex : Byte) (data : List Byte) : Statement (.post f selector hostTag op index subindex data) :=
  of_payload rfl (fun h => by
    simp only [Instr.wf, Bool.and_eq_true, decide_eq_true_eq] at h
    have := h.2
    simp only [List.length_append, List.length_cons, List.length_nil, wordBytes]
    omega)

theorem confirm (f : FrameHead) (args : List Byte) : Statement (.confirm f args) :=
  of_issue rfl rfl

theorem confirmLapsed : Statement .confirmLapsed := of_none rfl

theorem clearLinkFault (f : FrameHead) (args : List Byte) : Statement (.clearLinkFault f args) :=
  of_issue rfl rfl

theorem noop (f : FrameHead) (args : List Byte) : Statement (.noop f args) :=
  of_issue rfl rfl

theorem goOperate (f : FrameHead) (args : List Byte) : Statement (.goOperate f args) :=
  of_issue rfl rfl

theorem goStandby (f : FrameHead) (args : List Byte) : Statement (.goStandby f args) :=
  of_issue rfl rfl

theorem enterSafe (f : FrameHead) (args : List Byte) : Statement (.enterSafe f args) :=
  of_issue rfl rfl

theorem resume (f : FrameHead) (args : List Byte) : Statement (.resume f args) :=
  of_issue rfl rfl

theorem clearConditions (f : FrameHead) (args : List Byte) : Statement (.clearConditions f args) :=
  of_issue rfl rfl

theorem releaseOutput (f : FrameHead) (args : List Byte) : Statement (.releaseOutput f args) :=
  of_issue rfl rfl

theorem overcurrentBegin (p : Fin 8) (o : Load) : Statement (.overcurrentBegin p o) := of_none rfl

theorem overcurrentEnd (p : Fin 8) (o : Load) : Statement (.overcurrentEnd p o) := of_none rfl

theorem trip (p : Fin 8) (o : Out) : Statement (.trip p o) := of_none rfl

theorem restart (p : Fin 8) (o : Out) : Statement (.restart p o) := of_none rfl

theorem settle (p : Fin 8) (o : Out) : Statement (.settle p o) := of_none rfl

theorem rawLevelChange (p : Fin 8) (level : Bool) : Statement (.rawLevelChange p level) := of_none rfl

theorem debounceExpiry (p : Fin 8) : Statement (.debounceExpiry p) := of_none rfl

theorem fieldFallBelowLow : Statement .fieldFallBelowLow := of_none rfl

theorem fieldFallToHigh : Statement .fieldFallToHigh := of_none rfl

theorem fieldRiseAboveHigh : Statement .fieldRiseAboveHigh := of_none rfl

theorem restoreSettleExpiry : Statement .restoreSettleExpiry := of_none rfl

theorem thermalRise : Statement .thermalRise := of_none rfl

theorem thermalFall : Statement .thermalFall := of_none rfl

theorem endOfTransmission (p : Fin 8) : Statement (.endOfTransmission p) := of_none rfl

theorem hushSent (p : Fin 8) : Statement (.hushSent p) := of_none rfl

theorem turnaroundExpiry (p : Fin 8) : Statement (.turnaroundExpiry p) := of_none rfl

theorem answerWindowExpiry (p : Fin 8) : Statement (.answerWindowExpiry p) := of_none rfl

theorem parcelReception (p : Fin 8) (chars : List LineChar) : Statement (.parcelReception p chars) := of_none rfl

theorem tick (p : Fin 8) : Statement (.tick p) := of_none rfl

theorem wakeSpacingExpiry (p : Fin 8) : Statement (.wakeSpacingExpiry p) := of_none rfl

theorem rebindDelayExpiry (p : Fin 8) : Statement (.rebindDelayExpiry p) := of_none rfl

theorem bind (f : FrameHead) (args : List Byte) : Statement (.bind f args) :=
  of_issue rfl rfl

theorem unbind (f : FrameHead) (args : List Byte) : Statement (.unbind f args) :=
  of_issue rfl rfl

theorem pause (f : FrameHead) (args : List Byte) : Statement (.pause f args) :=
  of_issue rfl rfl

theorem resumePort (f : FrameHead) (args : List Byte) : Statement (.resumePort f args) :=
  of_issue rfl rfl

theorem clearCounters (f : FrameHead) (args : List Byte) : Statement (.clearCounters f args) :=
  of_issue rfl rfl

theorem flush (f : FrameHead) (args : List Byte) : Statement (.flush f args) :=
  of_issue rfl rfl

theorem journalClear (f : FrameHead) (args : List Byte) : Statement (.journalClear f args) :=
  of_issue rfl rfl

theorem journalMark (f : FrameHead) (args : List Byte) : Statement (.journalMark f args) :=
  of_issue rfl rfl

theorem releaseAttention (f : FrameHead) (args : List Byte) : Statement (.releaseAttention f args) :=
  of_issue rfl rfl

theorem dismiss (f : FrameHead) (args : List Byte) : Statement (.dismiss f args) :=
  of_issue rfl rfl

theorem kaArm (f : FrameHead) (args : List Byte) : Statement (.kaArm f args) :=
  of_issue rfl rfl

theorem kaDisarm (f : FrameHead) (args : List Byte) : Statement (.kaDisarm f args) :=
  of_issue rfl rfl

theorem kaRefresh (f : FrameHead) (args : List Byte) : Statement (.kaRefresh f args) :=
  of_issue rfl rfl

theorem kaWarning : Statement .kaWarning := of_none rfl

theorem kaExpired : Statement .kaExpired := of_none rfl

theorem storeLoadComplete : Statement .storeLoadComplete := of_none rfl

theorem storeCommit (f : FrameHead) (args : List Byte) : Statement (.storeCommit f args) :=
  of_issue rfl rfl

theorem eraseComplete (ok : Bool) : Statement (.eraseComplete ok) := of_none rfl

theorem programComplete (ok : Bool) : Statement (.programComplete ok) := of_none rfl

theorem verifyComplete (ok : Bool) : Statement (.verifyComplete ok) := of_none rfl

theorem storeRead (f : FrameHead) (args : List Byte) : Statement (.storeRead f args) :=
  of_issue rfl rfl

theorem storeDefaults (f : FrameHead) (args : List Byte) : Statement (.storeDefaults f args) :=
  of_issue rfl rfl

theorem softReset (f : FrameHead) (args : List Byte) : Statement (.softReset f args) :=
  of_issue rfl rfl

theorem portReset (f : FrameHead) (args : List Byte) : Statement (.portReset f args) :=
  of_issue rfl rfl

theorem resetInterval (line : ResetLine) : Statement (.resetInterval line) := of_none rfl

theorem deviceResetStep (sample : Sample) : Statement (.deviceResetStep sample) := of_none rfl

theorem read (f : FrameHead) (start : Word) (count : Byte) : Statement (.read f start count) :=
  of_payload rfl (fun _ => by simp [wordBytes])

theorem reject (mosi : List Byte) : Statement (.reject mosi) := of_none rfl

end Sys2Proof.Laws.FrameSize
end

