-- ==== Sys2Proof/Laws/Store.lean ====
section
/-! SUPPORT. The laws of the settings image (section 11.1): its length, and that a bank holds the image programmed into it. -/

namespace Sys2Proof.Machine

theorem packetBytes_length (id : Byte) (data : List Byte) : (packetBytes id data).length = data.length + 2 := rfl

theorem wordBytes_length (w : Word) : (wordBytes w).length = 2 := rfl

theorem flatMap_wordBytes_length (l : List Word) : (l.flatMap wordBytes).length = 2 * l.length := by
  induction l with
  | nil => rfl
  | cons w rest ih => simp only [List.flatMap_cons, List.length_append, List.length_cons, ih, wordBytes_length]; omega

theorem PortConfig.words_length (c : PortConfig) : c.words.length = 16 := rfl

/-- The packet run of every image is 297 bytes long. -/
theorem Settings.run_length (c : Settings) : c.run.length = 297 := by
  simp only [Settings.run, allPorts, List.flatMap_cons, List.flatMap_nil, List.length_append, packetBytes_length,
    flatMap_wordBytes_length, wordBytes_length, PortConfig.words_length, List.length_cons, List.length_nil, Vector.length_toList]

/-- Every image is 307 bytes long. -/
theorem Settings.image_length (c : Settings) (g : Word) : (c.image g).length = 307 := by
  simp only [Settings.image, List.length_append, Settings.run_length, wordBytes_length]
  rfl

/-- A bank reads back the bytes programmed into it. -/
theorem Store.bytesAt_program (st : Store) (h : Memory.wf st.cells = true) (k : Bank) (hk : st.left (.bank k) = none) (offset : Nat)
    (bytes : List Byte) (hb : offset + bytes.length ≤ bankSize) :
    (st.program k offset bytes).bytesAt (.bank k) offset bytes.length = bytes := by
  apply List.ext_getElem
  · simp [Store.bytesAt]
  · intro i h1 h2
    simp [Store.bytesAt, Store.byteAt_program st h k hk offset bytes hb, h2]

end Sys2Proof.Machine
end

