-- ==== Sys2Proof/Tests/Slice0.lean ====
section
/-! SUPPORT. Tests: what WellFormed refuses, the spec's worked bytes, one or two small results for the commands, and for each
statement with hypotheses a state and operands that meet them. -/

namespace Sys2Proof.Tests

open Sys2Proof.Machine

set_option Elab.async false

/-! ### Small states and frames -/

/-- A frame head for unit 0 with tag 0x5A and the right CHECK byte. -/
def frame (kind : BitVec 3) (payload : List Byte) : FrameHead :=
  ⟨0#3, 0x5A#8, frameCrc ([headerByte kind 0#3 0#2, 0x5A#8, lengthByte payload] ++ payload)⟩

/-- The head of an ISSUE. -/
def issue (code : Byte) (args : List Byte) : FrameHead := frame kindIssue (code :: args)

/-- The bytes of an ISSUE. -/
def issueBytes (code : Byte) (args : List Byte) : List Byte := frameBytes (issue code args) kindIssue (code :: args)

/-- The state after reset in another mode. -/
def inMode (m : Mode) : State := { State.reset with mode := m }

def standby : State := inMode .standby
def operate : State := inMode .operate

/-- SAFE_HOLD with a cause. -/
def safe (cause : SafeCause) : State := { inMode .safeHold with safeCause := cause }

/-- A state with the configuration of port 0 changed. -/
def withConf (s : State) (f : PortConfig → PortConfig) : State :=
  s.modCfg (fun c => { c with ports := c.ports.set 0 (f (c.ports.get 0)) })

/-- A state with one output of port 0 in a protection state, with a count and a timer. -/
def withOut (s : State) (o : Out) (st : OutState) (count : Byte) (timer : Option Nat) : State :=
  s.setOut 0 o ⟨st, count, 0#16, timer⟩

/-- OPERATE with port 0 in TETHER mode, AUTO_BIND, both outputs ENGAGED. -/
def tether : State :=
  withOut (withOut (withConf operate (fun c => { c with portMode := 0x006D#16 })) .feed .engaged 0#8 none) .signal .engaged
    0#8 none

/-- `tether` with the engine in a state. -/
def withEngine (st : EngState) : State := tether.modEngine 0 (fun e => { e with state := st })

/-- An exchange that listens. -/
def listening (kind : ExchKind) (attempts limit : Nat) : Exchange := ⟨kind, 1#2, [], attempts, limit, .listening⟩

/-- `tether` with an engine in a state and an exchange in progress. -/
def withExchange (st : EngState) (x : Exchange) : State :=
  (withEngine st).modLine 0 (fun l => { l with exchange := some x })

/-- A character sent without error. -/
def char (b : Byte) : LineChar :=
  ⟨b, (List.range 8).foldl (fun parity n => parity != b.getLsbD n) true, true⟩

/-- A parcel sent without error. -/
def parcel (type : Nat) (seq : BitVec 2) (flags : Nat) (payload : List Byte) : List LineChar :=
  (parcelBytes type seq flags payload).map char

/-- A version-1 HELLO of class 0x1234 with input length 2, no outputs, and a shortest cycle. -/
def hello (minCycle : Byte) : List LineChar := parcel 2 0#2 0 [1, 0x12, 0x34, 1, 2, 3, 4, 2, 0, minCycle]

/-- A host slot. -/
def slot (n : Fin 32) : Request := ⟨n, .host, 9#8, .readParam, 0x2001#16, 0#8, []⟩

/-- A state with a pending confirmation. -/
def pendingConfirm (s : State) (code : Byte) (args : List Byte) : State :=
  { s with link := { s.link with confirm := some ⟨code, args, 4#8⟩ } }

/-- The state that an outcome goes on to. -/
def after : Host.Outcome State Fault Refusal → State
  | .next t => t
  | _ => State.reset

/-- The reply on its way in a state: status and payload. -/
def reply (s : State) : Option (Byte × List Byte) :=
  match s.link.phase with
  | .replying r _ _ => some (r.status, r.payload)
  | _ => none

/-! ### What WellFormed refuses -/

theorem test_wf_write_refuses_no_entries : Instr.wf (.write (frame kindWrite []) []) = false := by decide +kernel
theorem test_wf_write_refuses_nine_entries :
    Instr.wf (.write (frame kindWrite []) (List.replicate 9 ⟨0x006#16, 0#16⟩)) = false := by decide +kernel
theorem test_wf_startingFrame_refuses_a_runt : Instr.wf (.startingFrame [0x60, 1, 1]) = false := by decide +kernel
theorem test_wf_startingFrame_refuses_37_bytes : Instr.wf (.startingFrame (List.replicate 37 0#8)) = false := by decide +kernel
theorem test_wf_reject_refuses_a_runt : Instr.wf (.reject [0x60, 1, 1]) = false := by decide +kernel
theorem test_wf_runt_refuses_no_bytes : Instr.wf (.runt []) = false := by decide +kernel
theorem test_wf_timeout_refuses_37_bytes : Instr.wf (.requestPhaseTimeout (List.replicate 37 0#8)) = false := by decide +kernel
theorem test_wf_fetch_refuses_a_bad_complement : Instr.wf (.fetchPortStream (frame kindFetch [0xE0]) 0xE0#8) = false := by
  decide +kernel
theorem test_wf_fetch_refuses_stream_8 : Instr.wf (.fetchPortStream (frame kindFetch [0x78]) 0x78#8) = false := by decide +kernel
theorem test_wf_post_refuses_25_data_bytes :
    Instr.wf (.post (frame kindPost []) 0xF0#8 0#8 2#8 0#16 0#8 (List.replicate 25 0#8)) = false := by decide +kernel
theorem test_wf_issue_refuses_eight_arguments : Instr.wf (.noop (issue 3 []) (List.replicate 8 0#8)) = false := by decide +kernel
theorem test_wf_reception_refuses_no_characters : Instr.wf (.parcelReception 0 []) = false := by decide +kernel
theorem test_wf_reception_refuses_33_characters : Instr.wf (.parcelReception 0 (List.replicate 33 (char 0))) = false := by
  decide +kernel
theorem test_wf_accepts_the_longest_frames :
    Instr.wf (.write (frame kindWrite []) (List.replicate 8 ⟨0x006#16, 0#16⟩)) = true ∧
    Instr.wf (.post (frame kindPost []) 0x78#8 0#8 2#8 0#16 0#8 (List.replicate 24 0#8)) = false ∧
    Instr.wf (.post (frame kindPost []) 0x87#8 0#8 2#8 0#16 0#8 (List.replicate 24 0#8)) = true ∧
    Instr.wf (.fetchPortStream (frame kindFetch [0x87]) 0x87#8) = true := by decide +kernel

/-! ### Worked bytes (sections 1.1, 1.3 and 5.3) -/

theorem test_frame_noop_bytes : issueBytes 3 [] = [0x60#8, 0x5A#8, 0x01#8, 0x03#8, frameCrc [0x60#8, 0x5A#8, 0x01#8, 0x03#8]] := by
  decide +kernel
theorem test_frame_noop_worked_example :
    frameCrc [0x60#8, 0x01#8, 0x01#8, 0x03#8] = 0x60#8 ∧ Reply.bytes ⟨0x00#8, 0x01#8, []⟩ = [0x00#8, 0x01#8, 0x00#8, 0x80#8] := by
  decide +kernel
theorem test_parcel_wake_worked_example : parcelBytes 1 0#2 0 [] = [0x10#8, 0x00#8, 0xB4#8] := by decide +kernel
theorem test_frame_parts_are_read :
    completedRequest [0x64#8, 0x07#8, 0x02#8, 0x18#8, 0x05#8, 0xAB#8] =
      some ⟨3#3, 1#3, 0#2, 0x07#8, 0x02#8, [0x18#8, 0x05#8], 0xAB#8⟩ := by decide +kernel
theorem test_factory_registers_at_reset :
    standby.readAddress 0x000 = 0x0848#16 ∧ standby.readAddress 0x030 = 0xB9FF#16 ∧ standby.readAddress 0x03E = 32#16 ∧
    standby.readAddress 0x100 = 0x0200#16 ∧ standby.readAddress 0x1E5 = 4#16 := by decide +kernel
theorem test_step_idles_a_millisecond :
    (after (step { operate with ka := ⟨.armed, 0#3, 4⟩ })).ka = ⟨.armed, 0#3, 5⟩ ∧
    (after (step { operate with ka := ⟨.armed, 0#3, 4⟩ })).timeBase = 1#32 := by decide +kernel
theorem test_no_word_spells_a_command : decodeTableWord 16 0x1234 = none := by decide +kernel
theorem test_reset_discards_the_rest_of_its_instant :
    (State.reset.arrive [.tick 1, .resetInterval .pin, .tick 0]).pending = [.resetInterval .pin] := by decide +kernel
theorem test_simultaneous_events_are_ranked :
    (State.reset.arrive [.tick 0, .kaExpired, .settle 1 .signal, .settle 0 .feed]).pending =
      [.kaExpired, .settle 0 .feed, .tick 0, .settle 1 .signal] := by decide +kernel

/-! ### Host frames -/

theorem test_noop_is_accepted : reply (after (exec (.noop (issue 3 []) []) operate)) = some (0x00#8, []) := by decide +kernel
theorem test_noop_with_arguments_is_rejected :
    reply (after (exec (.noop (issue 3 [7]) [7]) operate)) = some (0x89#8, []) := by decide +kernel
theorem test_write_last_entry_wins :
    (after (exec (.write (frame kindWrite (entryBytes [⟨0x105#16, 3#16⟩, ⟨0x105#16, 8#16⟩])) [⟨0x105#16, 3#16⟩, ⟨0x105#16, 8#16⟩])
      standby)).readAddress 0x105 = 8#16 := by decide +kernel
theorem test_write_of_a_read_only_register_is_rejected :
    reply (after (exec (.write (frame kindWrite (entryBytes [⟨0x003#16, 0#16⟩])) [⟨0x003#16, 0#16⟩]) standby)) =
      some (0x87#8, []) := by decide +kernel
theorem test_read_device_id :
    reply (after (exec (.read (frame kindRead [0, 0, 1]) 0#16 1#8) standby)) = some (0x00#8, [0x08#8, 0x48#8]) := by decide +kernel
theorem test_read_of_a_hole_captures_its_address :
    (after (exec (.read (frame kindRead [0, 0x0A, 2]) 0x00A#16 2#8) standby)).link.capture.address = 0x00B#16 := by decide +kernel
theorem test_signal_mode_off_detaches :
    ((after (exec (.signalModeChange (frame kindWrite (entryBytes [⟨0x100#16, 0x0008#16⟩])) 0 0x0008#16)
      (withEngine .bound))).engine 0).reason = .mode := by decide +kernel
theorem test_feed_enable_engages_the_feed :
    ((after (exec (.feedEnableChange (frame kindWrite (entryBytes [⟨0x100#16, 0x0008#16⟩])) 0 0x0008#16) operate)).port 0).feed.state =
      .engaged := by decide +kernel
theorem test_drive_level_drives_source_high :
    (after (exec (.driveLevelChange (frame kindWrite (entryBytes [⟨0x100#16, 0x0012#16⟩])) 0 0x0012#16) operate)).signalPin 0 =
      .high := by decide +kernel
theorem test_auto_bind_wakes :
    ((after (exec (.autoBindSet (frame kindWrite (entryBytes [⟨0x100#16, 0x002D#16⟩])) 0 0x002D#16)
      (withConf tether (fun c => { c with portMode := 0x000D#16 })))).engine 0).state = .waking := by decide +kernel
theorem test_attn_priority_write :
    (after (exec (.attnPriorityWrite (frame kindWrite (entryBytes [⟨0x02A#16, 0x0007#16⟩])) 2 0x0007#16) standby)).cfg.priority
      .link = 7#3 := by decide +kernel
theorem test_attn_floor_write_out_of_range :
    reply (after (exec (.attnFloorWrite (frame kindWrite (entryBytes [⟨0x022#16, 8#16⟩])) 8#16) standby)) = some (0x89#8, []) := by
  decide +kernel
theorem test_startup_answers_starting :
    reply (after (exec (.startingFrame (issueBytes 3 [])) State.reset)) = some (0x03#8, []) := by decide +kernel
theorem test_reject_wrong_check_is_captured :
    (after (exec (.reject [0x60#8, 0x01#8, 0x01#8, 0x03#8, 0x61#8]) standby)).link.capture =
      ⟨true, false, 3#3, 0x84#8, 0x01#8, 0#16, 0#16⟩ := by decide +kernel
theorem test_runt_is_counted : (after (exec (.runt [0x60#8]) standby)).link.runts = 1#16 := by decide +kernel
theorem test_request_timeout_ignores_the_rest :
    (after (exec (.requestPhaseTimeout []) standby)).link.phase = .ignoring := by decide +kernel
theorem test_frame_after_an_abandoned_one_shows_the_quick_status :
    let t := after (exec (.requestPhaseTimeout []) standby)
    t.misoNext 0 = 0x00#8 ∧ t.misoRequest = 0x48#8 ∧ (after (exec .replyCut t)).link.phase = .idle := by decide +kernel
theorem test_reply_is_clocked_out_and_then_zeros :
    let t := after (exec (.noop (issue 3 []) []) standby)
    (List.range 6).map t.misoNext = [0x00#8, 0x5A#8, 0x00#8, frameCrc [0x00#8, 0x5A#8, 0x00#8], 0x00#8, 0x00#8] := by decide +kernel
theorem test_reply_cut_is_shown :
    (after (exec .replyCut (after (exec (.noop (issue 3 []) []) standby)))).link.replyCut = true := by decide +kernel
theorem test_confirm_lapse_is_journalled :
    ((after (exec .confirmLapsed (pendingConfirm standby 0x38#8 []))).journal.entries.map Entry.detail).getLast? =
      some [0x38#8, 4#8, 2#8] := by decide +kernel

/-! ### FETCH, POST, claims -/

theorem test_post_takes_slot_0 :
    reply (after (exec (.post (frame kindPost [0xF0, 7, 1, 0x20, 1, 0]) 0xF0#8 7#8 1#8 0x2001#16 0#8 []) (withEngine .bound))) =
      some (0x00#8, [0#8]) := by decide +kernel
theorem test_post_of_a_detached_port_is_rejected :
    reply (after (exec (.post (frame kindPost [0xF0, 7, 1, 0x20, 1, 0]) 0xF0#8 7#8 1#8 0x2001#16 0#8 []) tether)) =
      some (0x8A#8, []) := by decide +kernel

/-- `tether` with an abandoned slot on the done list of port 0. -/
def doneOne : State := tether.modPort 0 (fun pt => { pt with done := [⟨slot 3, .abandoned⟩] })

theorem test_fetch_port_stream :
    reply (after (exec (.fetchPortStream (frame kindFetch [0xF0]) 0xF0#8) doneOne)) =
      some (0x00#8, [3, 9, 1, 0x20, 0x01, 0, 3, 0]) := by decide +kernel
theorem test_fetch_port_commit_frees :
    ((after (exec .fetchPortCommit (after (exec (.fetchPortStream (frame kindFetch [0xF0]) 0xF0#8) doneOne)))).port 0).done =
      [] := by decide +kernel
theorem test_fetch_journal_power_up :
    reply (after (exec (.fetchJournal (frame kindFetch [0x78])) standby)) =
      some (0x00#8, [0, 0, 0, 0, 0, 0, 9, 1, 0, 1, 1]) := by decide +kernel
theorem test_fetch_journal_commit_removes :
    (after (exec .fetchJournalCommit (after (exec (.fetchJournal (frame kindFetch [0x78])) standby)))).journal.entries = [] := by
  decide +kernel

/-- STANDBY with the LINK source at priority 5 marked once with code 0x84. -/
def linkMarked : State :=
  ({ standby with cfg := { standby.cfg with attnPriority := standby.cfg.attnPriority.set 2 5#16 } } : State).mark .link 0x84#8

theorem test_claim_delivers_the_link :
    reply (after (exec (.claim (frame kindFetch [0x69])) linkMarked)) = some (0x00#8, [8, 5, 0x84, 1]) := by decide +kernel
theorem test_claim_commit_empties_and_stacks :
    let t := after (exec .claimCommit (after (exec (.claim (frame kindFetch [0x69])) linkMarked)))
    t.attn.codes.link = ⟨0#8, 0#8⟩ ∧ t.attn.stack = [⟨.link, 5#3⟩] := by decide +kernel
theorem test_release_attention_of_an_empty_stack :
    reply (after (exec (.releaseAttention (issue 0x24 []) []) standby)) = some (0x04#8, []) := by decide +kernel
theorem test_dismiss_reports_the_latch :
    reply (after (exec (.dismiss (issue 0x25 [8]) [8]) linkMarked)) = some (0x00#8, [1, 0x84, 1]) := by decide +kernel

/-! ### Modes, keepalive, conditions -/

theorem test_go_operate : (after (exec (.goOperate (issue 8 []) []) standby)).mode = .operate := by decide +kernel
theorem test_go_standby_disables :
    ((after (exec (.goStandby (issue 9 []) []) tether)).port 0).feed.state = .disabled := by decide +kernel
theorem test_enter_safe_detaches :
    ((after (exec (.enterSafe (issue 0x0A []) []) (withEngine .bound))).engine 0).reason = .mode := by decide +kernel
theorem test_resume_rearms :
    (after (exec (.resume (issue 0x0B []) []) { safe .keepalive with ka := ⟨.expired, 3#3, 100⟩ })).ka = ⟨.armed, 3#3, 0⟩ := by
  decide +kernel
theorem test_ka_arm_awaits :
    reply (after (exec (.kaArm (issue 0x28 [2]) [2]) operate)) = some (0x01#8, []) := by decide +kernel
theorem test_ka_arm_confirmed :
    (after (exec (.confirm (issue 1 [0x28, 2]) [0x28, 2]) (pendingConfirm operate 0x28#8 [2]))).cfg.autoArm = 3#4 := by decide +kernel
theorem test_ka_disarm_in_disarmed_is_rejected :
    reply (after (exec (.kaDisarm (issue 0x29 []) []) operate)) = some (0x8A#8, []) := by decide +kernel
theorem test_ka_refresh_reports_what_was_left :
    reply (after (exec (.kaRefresh (issue 0x2A []) []) { operate with ka := ⟨.armed, 5#3, 120⟩ })) =
      some (0x00#8, [0x01#8, 0x7C#8]) := by decide +kernel
theorem test_ka_warning_marks :
    (after (exec .kaWarning { operate with ka := ⟨.armed, 0#3, 0⟩ })).attn.codes.keepalive = ⟨1#8, 1#8⟩ := by decide +kernel
theorem test_ka_expired_enters_safe_hold :
    (after (exec .kaExpired { operate with ka := ⟨.warned, 0#3, 5⟩ })).safeCause = .keepalive := by decide +kernel
theorem test_clear_conditions_keeps_what_holds :
    reply (after (exec (.clearConditions (issue 0x0C [8, 0, 0x1F]) [8, 0, 0x1F])
      { standby with deviceCondition := 0x001F#16, sup := ⟨.low, false, 0#8⟩ })) = some (0x00#8, [0x00#8, 0x09#8]) := by decide +kernel
theorem test_clear_link_fault :
    (after (exec (.clearLinkFault (issue 2 []) []) (after (exec (.runt [0]) standby)))).link.capture.held = false := by decide +kernel

/-! ### Outputs and supervision -/

theorem test_overcurrent_begin_limits :
    ((after (exec (.overcurrentBegin 0 ⟨.feed, 501⟩) tether)).port 0).feed = ⟨.limiting, 0#8, 0#16, some 1000⟩ := by decide +kernel
theorem test_overcurrent_end_settles :
    ((after (exec (.overcurrentEnd 0 ⟨.feed, 500⟩) (withOut tether .feed .limiting 1#8 (some 1000)))).port 0).feed =
      ⟨.engaged, 1#8, 0#16, some 2000000⟩ := by decide +kernel
theorem test_trip_latches_at_the_budget :
    ((after (exec (.trip 0 .feed) (withOut tether .feed .limiting 2#8 (some 1000)))).port 0).feed =
      ⟨.latched, 3#8, 1#16, none⟩ := by decide +kernel
theorem test_trip_below_the_budget :
    ((after (exec (.trip 0 .signal) (withOut tether .signal .limiting 0#8 (some 200)))).port 0).signal =
      ⟨.tripped, 1#8, 1#16, some 40000⟩ := by decide +kernel
theorem test_restart_into_an_overload :
    ((after (exec (.restart 0 .feed) { withOut tether .feed .tripped 1#8 (some 80000) with
      pins := { State.reset.pins with loadFeed := Eight.all 600 } })).port 0).feed.state = .limiting := by decide +kernel
theorem test_current_written_while_off_counts_at_the_next_engagement :
    let s : State := { withConf (withOut tether .feed .tripped 1#8 (some 80000)) (fun c => { c with feedGuard := 0x0316#16 }) with
      pins := { State.reset.pins with loadFeed := Eight.all 600 } }
    ((after (exec (.restart 0 .feed) s)).port 0).feed.state = .engaged := by decide +kernel
/-- R52: a WRITE that raises CURRENT to 1000 mA and enables FEED into 600 mA finds it above the 500 mA in force before; the cut-off
timer it starts takes the new delay of 4 ms (R42). -/
theorem test_current_written_with_the_enable_counts_after_the_frame :
    let entries : List WriteEntry := [⟨0x101#16, 0x031E#16⟩, ⟨0x100#16, 0x0208#16⟩]
    let s : State := { operate with pins := { operate.pins with loadFeed := Eight.all 600 } }
    let t := after (exec (.write (frame kindWrite (entryBytes entries)) entries) s)
    (t.port 0).feed = ⟨.limiting, 0#8, 0#16, some 4000⟩ ∧ t.overloaded 0 .feed = false := by decide +kernel
/-- The other way round: CURRENT lowered to 250 mA in the frame that enables FEED into 300 mA. -/
theorem test_lower_current_written_with_the_enable_counts_after_the_frame :
    let entries : List WriteEntry := [⟨0x101#16, 0x0314#16⟩, ⟨0x100#16, 0x0208#16⟩]
    let s : State := { operate with pins := { operate.pins with loadFeed := Eight.all 300 } }
    let t := after (exec (.write (frame kindWrite (entryBytes entries)) entries) s)
    (t.port 0).feed = ⟨.engaged, 0#8, 0#16, none⟩ ∧ t.overloaded 0 .feed = true := by decide +kernel
theorem test_settle_clears_the_count :
    ((after (exec (.settle 0 .feed) (withOut tether .feed .engaged 2#8 (some 2000000)))).port 0).feed =
      ⟨.engaged, 0#8, 0#16, none⟩ := by decide +kernel
theorem test_release_output :
    reply (after (exec (.releaseOutput (issue 0x10 [0, 2]) [0, 2]) (withOut tether .feed .latched 3#8 none))) =
      some (0x00#8, [1#8]) := by decide +kernel
theorem test_raw_change_starts_the_debounce :
    ((after (exec (.rawLevelChange 0 true) (withConf operate (fun c => { c with portMode := 0x0201#16 })))).port 0).rx =
      ⟨false, some 1000⟩ := by decide +kernel
theorem test_debounce_expiry_is_an_edge :
    ((after (exec (.debounceExpiry 0)
      { (operate.modPort 0 (fun pt => { pt with rx := ⟨false, some 1000⟩ })) with
        pins := { State.reset.pins with raw := Eight.all true } })).port 0).rx = ⟨true, none⟩ := by decide +kernel
theorem test_field_fall_inhibits :
    ((after (exec .fieldFallBelowLow tether)).port 0).feed.state = .inhibited := by decide +kernel
theorem test_field_rise_restores :
    (after (exec .fieldRiseAboveHigh { tether with sup := ⟨.low, false, 0#8⟩ })).sup.field = .restoring := by decide +kernel
theorem test_field_fall_abandons_the_settle :
    (after (exec .fieldFallToHigh { tether with sup := ⟨.restoring, false, 0#8⟩ })).sup = ⟨.low, false, 1#8⟩ := by decide +kernel
theorem test_restore_settle_releases :
    ((after (exec .restoreSettleExpiry { withOut tether .feed .inhibited 0#8 none with sup := ⟨.restoring, false, 0#8⟩ })).port
      0).feed.state = .engaged := by decide +kernel
theorem test_thermal_rise_detaches :
    ((after (exec .thermalRise (withEngine .bound))).engine 0).reason = .supply := by decide +kernel
theorem test_thermal_fall_leaves_the_low_period :
    (after (exec .thermalFall { tether with sup := ⟨.low, true, 0#8⟩ })).inhibit = true := by decide +kernel

/-! ### Line engines -/

theorem test_end_of_transmission_opens_the_window :
    (((after (exec (.endOfTransmission 0) (withExchange .bound { listening .poll 1 4 with phase := .sending }))).exchange
      0).map Exchange.phase) = some .listening := by decide +kernel
theorem test_turnaround_starts_the_attempt :
    ((after (exec (.turnaroundExpiry 0)
      ((withExchange .bound { listening .poll 1 4 with phase := .waiting }).modLine 0 (fun l => { l with turnaround := true })))).exchange
        0).map Exchange.phase = some .sending := by decide +kernel
theorem test_hush_sent :
    ((after (exec (.hushSent 0) (tether.modLine 0 (fun l => { l with hush := some 1#2 })))).engine 0).line.hush = none := by decide +kernel
theorem test_silence_is_retried :
    ((after (exec (.answerWindowExpiry 0) (withExchange .bound (listening .poll 1 4)))).engine 0).retryCount = 1#16 := by decide +kernel
theorem test_hello_binds :
    ((after (exec (.parcelReception 0 (hello 0)) (withExchange .waking (listening .wake 1 1)))).engine 0).state = .bound := by decide +kernel
theorem test_hello_too_fast_holds :
    ((after (exec (.parcelReception 0 (hello 5)) (withExchange .waking (listening .wake 1 1)))).engine 0).reason = .cycle := by decide +kernel
theorem test_wake_lead_byte_on_the_wire :
    wireBits (sentChar 0x10#8) = [false, false, false, false, false, true, false, false, false, false, true] := by decide +kernel
theorem test_tick_polls :
    ((after (exec (.tick 0) ((withEngine .bound).modEngine 0 (fun e => { e with timer := .tick 10 })))).exchange 0).map
      Exchange.parcel = some (parcelBytes 3 1#2 0 []) := by decide +kernel
theorem test_wake_spacing_wakes_again :
    ((after (exec (.wakeSpacingExpiry 0) ((withEngine .waking).modEngine 0 (fun e => { e with timer := .spacing })))).exchange
      0).map Exchange.parcel = some [0x10#8, 0x00#8, 0xB4#8] := by decide +kernel
theorem test_rebind_delay_wakes :
    ((after (exec (.rebindDelayExpiry 0) ((withEngine .lost).modEngine 0 (fun e => { e with timer := .rebind })))).engine 0).state =
      .waking := by decide +kernel
theorem test_bind_wakes : ((after (exec (.bind (issue 0x18 [0]) [0]) tether)).engine 0).state = .waking := by decide +kernel
theorem test_unbind_sends_a_hush :
    ((after (exec (.unbind (issue 0x19 [0]) [0]) (withEngine .bound))).engine 0).line.hush = some 1#2 := by decide +kernel
theorem test_pause : ((after (exec (.pause (issue 0x1A [0]) [0]) (withEngine .bound))).engine 0).state = .paused := by decide +kernel
theorem test_resume_port :
    ((after (exec (.resumePort (issue 0x1B [0]) [0]) (withEngine .paused))).engine 0).state = .bound := by decide +kernel
theorem test_clear_counters :
    ((after (exec (.clearCounters (issue 0x1C [0]) [0]) (tether.modEngine 0 (fun e => { e with missedTicks := 7#16 })))).engine
      0).missedTicks = 0#16 := by decide +kernel
theorem test_flush_reports :
    reply (after (exec (.flush (issue 0x1D [0, 1]) [0, 1]) (doneOne.modPort 0 (fun pt => { pt with queue := [slot 1, slot 2] })))) =
      some (0x00#8, [2#8, 1#8]) := by decide +kernel

/-! ### Journal, store, resets -/

/-- STANDBY with a commit in progress. -/
def committing (c : Commit) : State := standby.modStore (fun st => { st with commit := c })

theorem test_journal_clear_records :
    ((after (exec (.journalClear (issue 0x20 []) []) standby)).journal.entries.map Entry.code) = [0x05#8] := by decide +kernel
theorem test_journal_mark_reply :
    reply (after (exec (.journalMark (issue 0x21 [0x7F]) [0x7F]) standby)) = some (0x00#8, [0, 0, 1]) := by decide +kernel
theorem test_store_commit_awaits :
    reply (after (exec (.storeCommit (issue 0x30 []) []) standby)) = some (0x01#8, []) := by decide +kernel
theorem test_store_commit_confirmed_erases_bank_a :
    reply (after (exec (.confirm (issue 1 [0x30]) [0x30]) (pendingConfirm standby 0x30#8 []))) = some (0x00#8, [1#8]) := by decide +kernel
theorem test_store_read_of_an_erased_array :
    reply (after (exec (.storeRead (issue 0x31 [2, 5, 0xFF, 1]) [2, 5, 0xFF, 1]) standby)) = some (0x00#8, [0xFF#8]) := by decide +kernel
theorem test_store_defaults_awaits :
    reply (after (exec (.storeDefaults (issue 0x32 []) []) standby)) = some (0x01#8, []) := by decide +kernel
theorem test_store_defaults_confirmed :
    ((after (exec (.confirm (issue 1 [0x32]) [0x32]) (pendingConfirm (withConf standby (fun c => { c with quota := 8#16 }))
      0x32#8 []))).conf 0).quota = 4#16 := by decide +kernel
theorem test_soft_reset_awaits :
    reply (after (exec (.softReset (issue 0x38 []) []) standby)) = some (0x01#8, []) := by decide +kernel
theorem test_soft_reset_confirmed :
    (after (exec (.confirm (issue 1 [0x38]) [0x38]) (pendingConfirm operate 0x38#8 []))).mode = .startup := by decide +kernel
theorem test_port_reset_reports :
    reply (after (exec (.portReset (issue 0x39 [0]) [0]) ((withEngine .lost).modPort 0 (fun pt => { pt with queue := [slot 1] })))) =
      some (0x00#8, [4#8, 1#8]) := by decide +kernel
theorem test_port_reset_marks_no_source :
    let s : State := { withEngine .lost with cfg := { (withEngine .lost).cfg with journalConfig := 0x09FF#16 } }
    let t := after (exec (.portReset (issue 0x39 [0]) [0]) s)
    t.journal.entries.length = 2 ∧ t.attn.codes.journal = ⟨0#8, 0#8⟩ := by decide +kernel
theorem test_erase_failure :
    (after (exec (.eraseComplete false) (committing (.erasing ⟨.a, 1#16, standby.cfg⟩)))).store.lastResult = 2#3 := by decide +kernel
theorem test_program_failure :
    (after (exec (.programComplete false) (committing (.programming ⟨.a, 1#16, standby.cfg⟩)))).store.bankA = .bad := by decide +kernel
theorem test_program_failure_spares_the_rest_of_the_bank :
    (after (exec (.programComplete false) (committing (.programming ⟨.a, 1#16, standby.cfg⟩)))).store.byteAt (.bank .a) 307 =
      0xFF#8 := by decide +kernel
theorem test_verify_success :
    (after (exec (.verifyComplete true) (committing (.verifying ⟨.b, 7#16, standby.cfg⟩)))).store.generation = 7#16 := by decide +kernel
theorem test_load_of_an_erased_array :
    (after (exec .storeLoadComplete State.reset)).mode = .standby ∧
    (after (exec .storeLoadComplete State.reset)).deviceCondition = 0x0018#16 := by decide +kernel
theorem test_reset_interval_releases_the_pins : (after (exec (.resetInterval .pin) tether)).feedPin 0 = false := by decide +kernel
theorem test_device_reset_step_in_a_frame_ignores_its_rest :
    (after (exec (.deviceResetStep ⟨0#3, true, false, true⟩) operate)).link.phase = .ignoring := by decide +kernel
theorem test_device_reset_step_samples :
    (after (exec (.deviceResetStep ⟨5#3, false, true, false⟩) tether)).deviceCondition = 0x0013#16 := by decide +kernel

/-! ### Witnesses: for each statement with hypotheses, states and operands that meet them, clause by clause -/

/-- An outcome that goes on does so to its next state. -/
theorem next_after {o : Host.Outcome State Fault Refusal} (h : (match o with | .next _ => true | _ => false) = true) :
    o = .next (after o) := by
  cases o with
  | next => rfl
  | fault => cases h
  | refused => cases h

/-- A WRITE of one register. -/
def writeHead (address value : Word) : FrameHead := frame kindWrite (entryBytes [⟨address, value⟩])

/-- A state in the reply phase of a frame that LINK_STATUS records. -/
def replying (s : State) (d : Delivery) : State :=
  { s with link := { s.link with phase := .replying ⟨0#8, 1#8, []⟩ true d } }

theorem witness_StepRunsFrontCommand :
    State.reset.pending = [] ∧ (State.reset.beginReset .pin).resetLine ≠ none ∧ (State.reset.beginReset .pin).pending = [] ∧
    State.reset.resetLine = none ∧ State.reset.ka.state ≠ .armed ∧ State.reset.ka.state ≠ .warned ∧
    ({ operate with ka := ⟨.armed, 0#3, 0⟩ } : State).ka.state = .armed := by decide +kernel

theorem witness_HostFramesAreTheirBytes :
    frameOf (.noop ⟨0#3, 0x01#8, 0x60#8⟩ []) = some [0x60#8, 0x01#8, 0x01#8, 0x03#8, 0x60#8] ∧
    (State.reset.beginReset .pin).resetLine ≠ none ∧ operate.resetLine = none ∧ operate.link.phase = .idle ∧
    (operate.setPhase .ignoring).link.phase = .ignoring ∧
    (replying operate .nothing).link.phase = .replying ⟨0#8, 1#8, []⟩ true .nothing := by decide +kernel

theorem witness_NoopAndClearLinkFault :
    Issued operate (issue 3 []) 0x03#8 [] ∧ Issued standby (issue 2 []) 0x02#8 [] ∧
    Issued operate (issue 3 [0]) 0x03#8 [0] ∧ Issued operate (issue 3 [0, 0, 0, 0, 0, 0, 0]) 0x03#8 [0, 0, 0, 0, 0, 0, 0] ∧
    Issued operate (issue 2 [0]) 0x02#8 [0] := by decide +kernel

theorem witness_AcceptanceChecksInOrder_first :
    operate.Listens ∧
    completedRequest [0x00#8, 1, 0, 0] = some ⟨0#3, 0#3, 0#2, 1, 0, [], 0⟩ ∧
    completedRequest [0xC0#8, 1, 0, 0] = some ⟨6#3, 0#3, 0#2, 1, 0, [], 0⟩ ∧
    completedRequest [0x61#8, 1, 0, 0] = some ⟨3#3, 0#3, 1#2, 1, 0, [], 0⟩ ∧
    completedRequest [0x64#8, 1, 1, 3, 0] = some ⟨3#3, 1#3, 0#2, 1, 1, [3], 0⟩ ∧ (1#3 : BitVec 3) ≠ operate.link.unit ∧
    completedRequest [0x60#8, 1, 0, 0] = some ⟨3#3, 0#3, 0#2, 1, 0, [], 0⟩ ∧ lengthLegal 3#3 0 = false ∧
    completedRequest [0x60#8, 1, 9, 0] = some ⟨3#3, 0#3, 0#2, 1, 9, [], 0⟩ ∧ lengthLegal 3#3 9 = false ∧
    completedRequest [0x60#8, 1, 1, 3, 0] = some ⟨3#3, 0#3, 0#2, 1, 1, [3], 0⟩ ∧ lengthLegal 3#3 1 = true ∧
    frameCrc [0x60#8, 1, 1, 3] ≠ 0#8 := by decide +kernel

theorem witness_AcceptanceChecksInOrder_second :
    Sent operate (frame kindFetch [0x5A]) kindFetch [0x5A#8] ∧ Sent operate (frame kindFetch [0xFF]) kindFetch [0xFF#8] ∧
    Sent operate (frame kindFetch [0xF0]) kindFetch [0xF0#8] ∧ Sent operate (frame kindFetch [0x69]) kindFetch [0x69#8] ∧
    Sent operate (frame kindPost [0x78, 0, 1, 0, 0, 0]) kindPost [0x78#8, 0, 1, 0, 0, 0] ∧
    Issued operate (issue 0 []) 0x00#8 [] ∧ Issued operate (issue 0xFF [1]) 0xFF#8 [1] := by decide +kernel

theorem witness_RejectsTouchOnlyTheLink :
    operate.Awake ∧ (completedRequest [0x00#8, 1, 0, 0]).isSome ∧
    exec (.reject [0x00#8, 1, 0, 0]) operate = .next (after (exec (.reject [0x00#8, 1, 0, 0]) operate)) ∧
    (after (exec (.reject [0x00#8, 1, 0, 0]) operate)).link.phase = .replying ⟨0x81#8, 1#8, []⟩ false .nothing :=
  ⟨by decide +kernel, by decide +kernel, next_after (by decide +kernel), by decide +kernel⟩

theorem witness_RuntsAreCountedAndCaptured :
    operate.Listens ∧ completedRequest [0x60#8] = none ∧ completedRequest [] = none ∧
    completedRequest (0xA0#8 :: 1 :: 30 :: List.replicate 30 0#8) = none := by decide +kernel

theorem witness_StartupAnswersStarting :
    State.reset.resetLine = none ∧ State.reset.mode = .startup ∧ (completedRequest (issueBytes 3 [])).isSome ∧
    completedRequest [0x60#8, 1, 1] = none ∧ completedRequest [] = none := by decide +kernel

theorem witness_FrameEndsCommitOnlyTheirOwn :
    (replying operate .nothing).Awake ∧
    (replying operate .nothing).link.phase = .replying ⟨0#8, 1#8, []⟩ true .nothing ∧
    (replying operate .claim).link.phase = .replying ⟨0#8, 1#8, []⟩ true .claim ∧
    (replying operate (.entry 0#16)).link.phase = .replying ⟨0#8, 1#8, []⟩ true (.entry 0#16) ∧
    operate.link.phase = .idle ∧ (operate.setPhase .ignoring).link.phase = .ignoring := by decide +kernel

theorem witness_ReadReturnsTheRange :
    Sent operate (frame kindRead [0, 0, 1]) kindRead (wordBytes 0#16 ++ [1#8]) ∧ regAt 0 ≠ none ∧
    Sent operate (frame kindRead [1, 0xF0, 16]) kindRead (wordBytes 0x1F0#16 ++ [16#8]) ∧ (∀ i < 16, regAt (0x1F0 + i) ≠ none) ∧
    Sent operate (frame kindRead [1, 0xF8, 255]) kindRead (wordBytes 0x1F8#16 ++ [255#8]) ∧ regAt 0x200 = none ∧
    Sent operate (frame kindRead [0, 0, 0]) kindRead (wordBytes 0#16 ++ [0#8]) ∧
    Sent operate (frame kindRead [1, 0, 17]) kindRead (wordBytes 0x100#16 ++ [17#8]) ∧
    (∀ i < 16, regAt (0x100 + i) ≠ none) := by decide +kernel

theorem witness_FirstStepsOnlyRemember :
    Issued operate (issue 0x28 [0]) 0x28#8 [0] ∧ Issued operate (issue 0x28 [7]) 0x28#8 [7] ∧
    Issued operate (issue 0x29 []) 0x29#8 [] ∧ Issued standby (issue 0x30 []) 0x30#8 [] ∧
    Issued standby (issue 0x32 []) 0x32#8 [] ∧ Issued operate (issue 0x38 []) 0x38#8 [] := by decide +kernel

theorem witness_ConfirmUsesUpTheRecord :
    Issued operate (issue 1 []) 0x01#8 [] ∧ Issued operate (issue 1 [0x28, 2]) 0x01#8 [0x28, 2] ∧ operate.link.confirm = none ∧
    (pendingConfirm operate 0x28#8 [3]).link.confirm = some ⟨0x28#8, [3], 4#8⟩ ∧
    parseCommand 0x28#8 [2] = .ok (.kaArm 2#3) ∧ (Command.kaArm 2#3).check standby = some 0x8A#8 ∧
    (Command.kaArm 2#3).check operate = none := by decide +kernel

theorem witness_ConfirmationLapses :
    (pendingConfirm operate 0x38#8 []).link.confirm = some ⟨0x38#8, [], 4#8⟩ ∧ (pendingConfirm operate 0x38#8 []).Awake ∧
    operate.link.confirm = none := by decide +kernel

theorem witness_GoStandbyStopsEverything :
    Issued standby (issue 9 []) 0x09#8 [] ∧ Issued (withEngine .bound) (issue 9 []) 0x09#8 [] ∧
    (withEngine .bound).mode ≠ .standby ∧ ((withEngine .bound).engine 0).state ≠ .detached ∧
    ((withEngine .bound).engine 1).state = .detached := by decide +kernel

theorem witness_GoOperateRunsTheConfiguration :
    Issued standby (issue 8 []) 0x08#8 [] ∧ standby.store.commit = .idle ∧ operate.mode ≠ .standby ∧
    (committing (.erasing ⟨.a, 1#16, standby.cfg⟩)).store.commit ≠ .idle ∧ (standby.engine 0).state = .detached := by
  decide +kernel

theorem witness_EnterSafeAppliesSafeActions :
    Issued (withEngine .bound) (issue 0x0A []) 0x0A#8 [] ∧ standby.mode ≠ .operate ∧ ((withEngine .bound).conf 0).tether = true ∧
    ((withEngine .bound).conf 0).safePoll = false ∧ ((withEngine .bound).engine 0).state ≠ .detached ∧
    (let s := withConf (withEngine .bound) (fun c => { c with safeAction := 0x0131#16 })
     (s.conf 0).safePoll = true ∧ (s.engine 0).due = false ∧
      ((after (exec (.enterSafe (issue 0x0A []) []) s)).port 0).feed.state.conducts = true ∧
      ((after (exec (.enterSafe (issue 0x0A []) []) s)).port 0).signal.state.conducts = true) := by decide +kernel

theorem witness_ResumeReturnsToTheConfiguration :
    Issued (safe .host) (issue 0x0B []) 0x0B#8 [] ∧ (safe .host).mode = .safeHold ∧ operate.mode ≠ .safeHold ∧
    ((safe .host).engine 0).state = .detached := by decide +kernel

theorem witness_KeepaliveExpiryEntersSafeHold :
    operate.Awake ∧ operate.ka.state ≠ .warned ∧
    ({ operate with ka := ⟨.warned, 0#3, 5⟩ } : State).ka.state = .warned := by decide +kernel

theorem witness_KeepaliveWarningAndRefresh :
    Issued { operate with ka := ⟨.armed, 7#3, 1999⟩ } (issue 0x2A []) 0x2A#8 [] ∧
    Issued operate (issue 0x2A []) 0x2A#8 [] ∧ operate.ka.state ≠ .armed ∧ operate.ka.state ≠ .warned ∧
    Issued operate (issue 0x2A [0]) 0x2A#8 [0] := by decide +kernel

theorem witness_KeepaliveArmAndDisarmExecute :
    Issued (pendingConfirm operate 0x28#8 [7]) (issue 1 [0x28, 7]) 0x01#8 [0x28, 7] ∧
    (pendingConfirm operate 0x28#8 [7]).link.confirm = some ⟨0x28#8, [7], 4#8⟩ ∧
    Issued (pendingConfirm { operate with ka := ⟨.warned, 0#3, 5⟩ } 0x29#8 []) (issue 1 [0x29]) 0x01#8 [0x29] ∧
    (pendingConfirm { operate with ka := ⟨.warned, 0#3, 5⟩ } 0x29#8 []).link.confirm = some ⟨0x29#8, [], 4#8⟩ ∧
    Issued operate (issue 0x28 [8]) 0x28#8 [8] ∧ Issued operate (issue 0x28 []) 0x28#8 [] ∧
    Issued operate (issue 0x29 [0]) 0x29#8 [0] := by decide +kernel

theorem witness_ClearConditionsSparesWhatHolds :
    Issued operate (issue 0x0C [8, 0, 0x1F]) 0x0C#8 [8, 0, 0x1F] ∧ (0x001F#16 : Word) &&& 0xFFE0#16 = 0#16 ∧
    Issued operate (issue 0x0C [7, 1, 0xFF]) 0x0C#8 [7, 1, 0xFF] ∧ (0x01FF#16 : Word) &&& 0xFE00#16 = 0#16 ∧
    Issued operate (issue 0x0C [8, 0, 0x20]) 0x0C#8 [8, 0, 0x20] ∧ (0x0020#16 : Word) &&& 0xFFE0#16 ≠ 0#16 ∧
    Issued operate (issue 0x0C [7, 2, 0]) 0x0C#8 [7, 2, 0] ∧ (0x0200#16 : Word) &&& 0xFE00#16 ≠ 0#16 ∧
    Issued operate (issue 0x0C [9, 0, 0]) 0x0C#8 [9, 0, 0] := by decide +kernel

theorem witness_WriteRefusalsInOrder :
    Sent standby (writeHead 0x00B#16 0#16) kindWrite (entryBytes [⟨0x00B#16, 0#16⟩]) ∧ regAt 0x00B = none ∧
    Sent standby (writeHead 0x003#16 0#16) kindWrite (entryBytes [⟨0x003#16, 0#16⟩]) ∧ regAt 0x003 = some .deviceMode ∧
    writable .deviceMode = false ∧
    Sent standby (writeHead 0x006#16 2#16) kindWrite (entryBytes [⟨0x006#16, 2#16⟩]) ∧ writable .deviceSettings = true ∧
    valueLegal .deviceSettings 2#16 = false ∧
    Sent (safe .host) (writeHead 0x104#16 0x0389#16) kindWrite (entryBytes [⟨0x104#16, 0x0389#16⟩]) ∧
    valueLegal (.port 0 4) 0x0389#16 = true ∧ modeLocked (.port 0 4) = true ∧
    Sent (withEngine .bound) (writeHead 0x104#16 0x0388#16) kindWrite (entryBytes [⟨0x104#16, 0x0388#16⟩]) ∧
    ((withEngine .bound).conf 0).rate = 1#2 ∧
    Sent tether (writeHead 0x100#16 0x0002#16) kindWrite (entryBytes [⟨0x100#16, 0x0002#16⟩]) ∧
    (tether.conf 0).signalMode = 5 := by decide +kernel

theorem witness_LastWriteGivesTheValue :
    Sent standby (writeHead 0x105#16 8#16) kindWrite (entryBytes [⟨0x105#16, 8#16⟩]) ∧
    standby.judgeWrite [⟨0x105#16, 8#16⟩] = none ∧ regAt 0x105 = some (.port 0 5) ∧ writable (.port 0 5) = true ∧
    (let entries : List WriteEntry := [⟨0x101#16, 0x0316#16⟩, ⟨0x100#16, 0x0208#16⟩]
     Sent operate (frame kindWrite (entryBytes entries)) kindWrite (entryBytes entries) ∧
       operate.judgeWrite entries = none ∧
       outEnabled operate.mode ((operate.cfg.apply entries).ports.get 0) .feed ≠ outEnabled operate.mode (operate.conf 0) .feed) := by
  decide +kernel

theorem witness_PortModeWriteActsOnItsPort :
    Sent (withEngine .bound) (writeHead (portAddress 0 0) 0#16) kindWrite (entryBytes [⟨portAddress 0 0, 0#16⟩]) ∧
    (withEngine .bound).mode ≠ .safeHold ∧ field 0#16 0 3 ≤ 5 ∧ ((withEngine .bound).conf 0).tether = true ∧
    ((withEngine .bound).engine 0).state ≠ .detached ∧
    Sent standby (writeHead (portAddress 7 0) 0x037D#16) kindWrite (entryBytes [⟨portAddress 7 0, 0x037D#16⟩]) ∧
    (0x037D#16 : Word) &&& 0xFC80#16 = 0#16 ∧ field 0x037D#16 0 3 = 5 ∧ (standby.conf 7).signalMode = 0 ∧
    -- FEED stops conducting
    Sent (withEngine .bound) (writeHead (portAddress 0 0) 0x0065#16) kindWrite (entryBytes [⟨portAddress 0 0, 0x0065#16⟩]) ∧
    ((withEngine .bound).port 0).feed.state.conducts = true ∧
    ((after (exec (.feedEnableChange (writeHead (portAddress 0 0) 0x0065#16) 0 0x0065#16) (withEngine .bound))).port
      0).feed.state.conducts = false ∧
    -- into TETHER with AUTO_BIND, binding then permitted
    Sent operate (writeHead (portAddress 0 0) 0x002D#16) kindWrite (entryBytes [⟨portAddress 0 0, 0x002D#16⟩]) ∧
    (operate.conf 0).tether = false ∧ (operate.engine 0).state = .detached ∧
    ((after (exec (.signalModeChange (writeHead (portAddress 0 0) 0x002D#16) 0 0x002D#16) operate)).engine 0).state = .waking ∧
    -- the same with an overloaded FEED: a bind due
    ((after (exec (.signalModeChange (writeHead (portAddress 0 0) 0x002D#16) 0 0x002D#16)
      { operate with pins := { operate.pins with loadFeed := Eight.all 501 } })).engine 0).due = true := by decide +kernel

theorem witness_ProtectionMachineMoves :
    tether.Awake ∧ ((tether.port 0).out .feed).state = .engaged ∧ ((tether.conf 0).guard .feed).extractLsb' 0 2 = 1#2 ∧
    ((tether.conf 0).guard .signal).extractLsb' 0 2 = 1#2 ∧
    (tether.withLoad 0 .feed 501).overloaded 0 .feed = true ∧ (tether.withLoad 0 .feed 500).overloaded 0 .feed = false ∧
    ((withOut tether .feed .limiting 0#8 (some 1000)).port 0).feed.state = .limiting ∧ (tether.engine 0).due = false ∧
    (tether.port 0).signal.state.conducts = true ∧
    ((withOut tether .feed .tripped 1#8 (some 80000)).port 0).feed.state = .tripped := by decide +kernel

theorem witness_TripCountsAndLatches :
    (let s := withOut (withEngine .bound) .feed .limiting 2#8 (some 1000)
     s.Awake ∧ ((s.port 0).out .feed).state = .limiting ∧ guardBudget ((s.conf 0).guard .feed) = 3 ∧
      (s.conf 0).attnMask.getLsbD 0 = true ∧ s.cfg.journalConfig.getLsbD 0 = true ∧ s.journal.entries.length < 28 ∧
      (s.engine 0).state ≠ .detached) ∧
    ((tether.port 0).out .feed).state ≠ .limiting := by decide +kernel

theorem witness_ReleaseOutputFreesLatches :
    Issued (withOut tether .feed .latched 3#8 none) (issue 0x10 [0, 2]) 0x10#8 [0, 2] ∧
    ((withOut tether .feed .latched 3#8 none).port 0).feed.state = .latched ∧
    (let s := withOut tether .feed .latched 3#8 none
     (s.engine 0).state = .detached ∧ (s.engine 0).reason ≠ .host ∧ (s.conf 0).signalMode = 5 ∧
       (s.conf 0).portMode.getLsbD 5 = true ∧
       ((after (exec (.releaseOutput (issue 0x10 [0, 2]) [0, 2]) s)).port 0).feed.state.conducts = true ∧
       ((after (exec (.releaseOutput (issue 0x10 [0, 2]) [0, 2]) s)).engine 0).state = .waking) ∧
    Issued tether (issue 0x10 [8, 0]) 0x10#8 [8, 0] ∧ Issued tether (issue 0x10 [7, 3]) 0x10#8 [7, 3] := by decide +kernel

theorem witness_LevelFollowsAndLineIsDriven :
    (let s := withConf operate (fun c => { c with portMode := 0x0201#16 })
     s.Awake ∧ s.pins.raw.get 0 = false ∧ s.mode ≠ .startup ∧ (s.conf 0).signalMode = 1 ∧ (s.conf 0).debounce = 2) ∧
    ((withConf operate (fun c => { c with portMode := 0x0001#16 })).conf 0).debounce = 0 ∧
    (let s := withOut (withConf operate (fun c => { c with portMode := 0x0014#16 })) .signal .engaged 0#8 none
     (s.conf 0).signalMode = 4 ∧ (s.port 0).signal.state = .engaged ∧ (s.conf 0).portMode.getLsbD 4 = true) ∧
    ((withConf operate (fun c => { c with portMode := 0x0002#16 })).conf 0).signalMode = 2 := by decide +kernel

theorem witness_FieldStateMachine :
    tether.Awake ∧ tether.sup.field = .good ∧ ({ tether with sup := ⟨.low, false, 0#8⟩ } : State).sup.field = .low ∧
    ({ tether with sup := ⟨.restoring, false, 0#8⟩ } : State).sup.field = .restoring := by decide +kernel

theorem witness_PeriodBeginInhibitsAndDetaches :
    (withEngine .bound).Awake ∧ ((withEngine .bound).inhibit = true → ∀ p o, (((withEngine .bound).port p).out o).state ≠ .engaged) ∧
    (withEngine .bound).sup.field = .good ∧ (withEngine .bound).sup.hot = false ∧ (withEngine .bound).mode ≠ .startup ∧
    ({ standby with sup := ⟨.good, true, 0#8⟩ } : State).sup.hot = true :=
  ⟨by decide +kernel, fun h => absurd h (by decide +kernel), by decide +kernel, by decide +kernel, by decide +kernel, rfl⟩

theorem witness_PeriodEndReleasesTheInhibit :
    (let s : State := { withOut tether .feed .inhibited 0#8 none with sup := ⟨.restoring, false, 0#8⟩ }
     s.Awake ∧ s.sup.field = .restoring ∧ s.sup.hot = false ∧ ((s.port 0).out .feed).state = .inhibited ∧ s.mode ≠ .startup) ∧
    (let s : State :=
      { withOut (withOut tether .feed .inhibited 0#8 none) .signal .inhibited 0#8 none with sup := ⟨.restoring, false, 0#8⟩ }
     (s.engine 0).state = .detached ∧ (s.engine 0).reason ≠ .host ∧ (s.conf 0).signalMode = 5 ∧
      (s.conf 0).portMode.getLsbD 5 = true ∧ ((after (exec .restoreSettleExpiry s)).engine 0).state = .waking) ∧
    State.reset.mode = .startup ∧
    ({ standby with sup := ⟨.good, true, 0#8⟩ } : State).sup.hot = true ∧ standby.sup.hot = false := by decide +kernel

theorem witness_AttemptsPassTheirPhases :
    tether.Awake ∧ (tether.engine 0).line.exchange = none ∧ (tether.engine 0).line.turnaround = false ∧
    (tether.engine 0).line.hush = none ∧
    (withExchange .bound (listening .poll 1 4)).exchange 0 = some (listening .poll 1 4) ∧
    ((withExchange .bound { listening .poll 1 4 with phase := .waiting }).modLine 0 (fun l => { l with turnaround := true })).exchange
      0 = some { listening .poll 1 4 with phase := .waiting } ∧
    (((withEngine .waking).modLine 0 (fun l => { l with hush := some 1#2 })).engine 0).timer = .none := by decide +kernel

theorem witness_FailedAttemptsAreRetried :
    (tether.engine 0).line.exchange = none ∧
    AttemptFails (withExchange .bound (listening .poll 1 4)) 0 (listening .poll 1 4) (.answerWindowExpiry 0) false ∧
    AttemptFails (withExchange .waking (listening .wake 1 1)) 0 (listening .wake 1 1) (.parcelReception 0 [char 3]) true ∧
    ((withExchange .waking (listening .wake 1 1)).engine 0).wakeCount + 1 < 4 :=
  ⟨by decide +kernel, ⟨by decide +kernel, rfl, .inl ⟨rfl, rfl⟩⟩,
    ⟨by decide +kernel, rfl, .inr ⟨[char 3], rfl, by decide +kernel, rfl, fun q h => absurd h (by
      rw [show readParcel [char 3] = none by decide +kernel]; exact nofun)⟩⟩, by decide +kernel⟩

theorem witness_LastFailuresCountAndLose :
    tether.Awake ∧
    AttemptFails (withExchange .bound (listening .poll 3 3)) 0 (listening .poll 3 3) (.answerWindowExpiry 0) false ∧
    AttemptFails (withExchange .bound (listening .ask 3 3)) 0 (listening .ask 3 3) (.answerWindowExpiry 0) false ∧
    (tether.conf 0).failLimit = 3 ∧
    AttemptFails (withExchange .waking (listening .wake 1 1)) 0 (listening .wake 1 1) (.answerWindowExpiry 0) false ∧
    (((withExchange .waking (listening .wake 1 1)).modEngine 0 (fun e => { e with wakeCount := 3 })).engine 0).wakeCount = 3 :=
  ⟨by decide +kernel, ⟨by decide +kernel, rfl, .inl ⟨rfl, rfl⟩⟩, ⟨by decide +kernel, rfl, .inl ⟨rfl, rfl⟩⟩, by decide +kernel,
    ⟨by decide +kernel, rfl, .inl ⟨rfl, rfl⟩⟩, by decide +kernel⟩

theorem witness_AnswersAndTellsAreAccepted :
    Hears ((withExchange .bound (listening .poll 1 4)).modEngine 0 (fun e => { e with inputLen := 8#8 })) 0
      (parcel 4 1#2 1 [1, 2, 3, 4, 5, 6, 7, 8]) (listening .poll 1 4) ⟨4, 1#2, true, false, [1, 2, 3, 4, 5, 6, 7, 8]⟩ ∧
    Hears (withExchange .bound (listening .ask 1 4)) 0 (parcel 6 1#2 0 [0]) (listening .ask 1 4) ⟨6, 1#2, false, false, [0]⟩ ∧
    (((withExchange .bound (listening .ask 1 4)).modPort 0 (fun pt => { pt with inFlight := some (slot 3) })).port 0).inFlight =
      some (slot 3) := by decide +kernel

theorem witness_HelloBindsOrHolds :
    Hears (withExchange .waking (listening .wake 1 1)) 0 (hello 5) (listening .wake 1 1)
      ⟨2, 0#2, false, false, [1, 0x12, 0x34, 1, 2, 3, 4, 2, 0, 5]⟩ ∧
    Hears (withExchange .waking (listening .wake 1 1)) 0 (parcel 2 0#2 0 [2]) (listening .wake 1 1)
      ⟨2, 0#2, false, false, [2]⟩ ∧
    (tether.conf 0).cycle = 2 ∧ (tether.conf 0).outputLen = 0#16 ∧ (tether.conf 0).expectClass = 0#16 ∧
    (tether.conf 0).expectId = 0#32 := by decide +kernel

theorem witness_EngineTimersExpire :
    (let s := (withEngine .bound).modEngine 0 (fun e => { e with timer := .tick 10 })
     s.Awake ∧ (s.engine 0).state = .bound ∧ (s.engine 0).timer = .tick 10 ∧
      [2, 5, 10, 20, 50, 100][(s.conf 0).cycle]? = some 10 ∧ (s.engine 0).line.exchange = none) ∧
    (tether.engine 0).state ≠ .bound ∧
    (((withEngine .waking).modEngine 0 (fun e => { e with timer := .spacing })).engine 0).timer = .spacing ∧
    (((withEngine .lost).modEngine 0 (fun e => { e with timer := .rebind })).engine 0).timer = .rebind := by decide +kernel

theorem witness_ParcelsReadBackAsSent :
    (parcel 7 3#2 3 (List.replicate 28 0xA5)).map LineChar.data = parcelBytes 7 3#2 3 (List.replicate 28 0xA5) ∧
    (∀ c ∈ parcel 7 3#2 3 (List.replicate 28 0xA5), charGood c = true) ∧
    (∃ c ∈ [(⟨0x10#8, true, true⟩ : LineChar), char 0, char 0xB4], charGood c = false) ∧
    [(⟨0x10#8, true, true⟩ : LineChar), char 0, char 0xB4].map LineChar.data = parcelBytes 1 0#2 0 [] ∧
    (0xB5#8 : Byte) ≠ parcelCrc [0x10#8, 0x00#8] ∧
    (let s := withExchange .bound { listening .poll 1 4 with phase := .sending }
     s.Awake ∧ (s.conf 0).signalMode = 5 ∧ (s.port 0).signal.state.conducts = true ∧ (s.engine 0).line.hush = none) ∧
    ((tether.modLine 0 (fun l => { l with hush := some 1#2 })).engine 0).line.hush ≠ none := by decide +kernel

theorem witness_BindAndAutoBindWake :
    Issued tether (issue 0x18 [0]) 0x18#8 [0] ∧ (tether.port 0).feed.state = .engaged ∧ (tether.port 0).signal.state = .engaged ∧
    (tether.engine 0).state = .detached ∧
    (let s := withConf tether (fun c => { c with portMode := 0x000D#16 })
     Sent s (writeHead (portAddress 0 0) 0x002D#16) kindWrite (entryBytes [⟨portAddress 0 0, 0x002D#16⟩]) ∧
      (0x002D#16 : Word) ^^^ (s.conf 0).portMode = 0x0020#16 ∧ (s.engine 0).due = false) ∧
    Sent tether (writeHead (portAddress 0 0) 0x004D#16) kindWrite (entryBytes [⟨portAddress 0 0, 0x004D#16⟩]) ∧
    (0x004D#16 : Word) ^^^ (tether.conf 0).portMode = 0x0020#16 := by decide +kernel

theorem witness_UnbindPauseResumePort :
    Issued tether (issue 0x19 [0]) 0x19#8 [0] ∧ Issued (withEngine .bound) (issue 0x19 [0]) 0x19#8 [0] ∧
    Issued (withEngine .bound) (issue 0x1A [0]) 0x1A#8 [0] ∧ Issued (withEngine .paused) (issue 0x1B [0]) 0x1B#8 [0] ∧
    (withEngine .paused).mode = .operate ∧ ((withEngine .paused).engine 0).pauseRequested = false ∧
    ((withEngine .paused).engine 0).line.exchange = none := by decide +kernel

theorem witness_FlushAndClearCountersAct :
    Issued tether (issue 0x1D [0, 1]) 0x1D#8 [0, 1] ∧ Issued tether (issue 0x1D [7, 2]) 0x1D#8 [7, 2] ∧
    Issued tether (issue 0x1D [8, 1]) 0x1D#8 [8, 1] ∧ Issued tether (issue 0x1D []) 0x1D#8 [] ∧
    Issued tether (issue 0x1C [7]) 0x1C#8 [7] ∧ Issued tether (issue 0x18 [8]) 0x18#8 [8] ∧
    Issued tether (issue 0x39 [0, 0]) 0x39#8 [0, 0] := by decide +kernel

theorem witness_PostTakesTheLowestFreeSlot :
    (let payload : List Byte := [selectorOf 0#4, 7, 1] ++ wordBytes 0x2001#16 ++ [0] ++ []
     Sent (withEngine .bound) (frame kindPost payload) kindPost payload ∧ Sent tether (frame kindPost payload) kindPost payload) ∧
    (let payload : List Byte := [selectorOf 0#4, 7, 2] ++ wordBytes 0x2001#16 ++ [0] ++ []
     Sent tether (frame kindPost payload) kindPost payload) ∧
    ((withEngine .bound).port 0).heldCount < field ((withEngine .bound).conf 0).quota 0 4 ∧
    (0 : Fin 32) ∉ (withEngine .bound).heldSlots ∧
    (let s := (withEngine .bound).modPort 0 (fun pt => { pt with queue := [slot 0, slot 1, slot 2, slot 3] })
     field (s.conf 0).quota 0 4 ≤ (s.port 0).heldCount) ∧
    (let s := (withEngine .bound).modPort 1 (fun pt => { pt with queue := (List.finRange 32).map slot })
     ∀ n : Fin 32, n ∈ s.heldSlots) := by decide +kernel

theorem witness_FetchDeliversCommitRemoves :
    Sent tether (frame kindFetch [0xF0]) kindFetch [selectorOf 0#4] ∧ (tether.port 0).done = [] ∧
    (doneOne.port 0).done = [⟨slot 3, .abandoned⟩] ∧ Sent tether (frame kindFetch [0x78]) kindFetch [0x78#8] ∧
    tether.begun.journal.entries.length = 1 ∧
    (replying doneOne (.slot 0 3)).link.phase = .replying ⟨0#8, 1#8, []⟩ true (.slot 0 3) ∧
    (replying tether (.entry 0#16)).link.phase = .replying ⟨0#8, 1#8, []⟩ true (.entry 0#16) ∧
    ({ tether with journal := { tether.journal with entries := [] } } : State).journal.entries = [] := by decide +kernel

theorem witness_JournalClearAndMark :
    Issued standby (issue 0x20 []) 0x20#8 [] ∧ Issued standby (issue 0x21 [7]) 0x21#8 [7] ∧
    Issued standby (issue 0x21 [7, 1, 2, 3, 4]) 0x21#8 [7, 1, 2, 3, 4] ∧ standby.cfg.journalConfig.getLsbD 8 = true ∧
    (0x0500#16 : Word).getLsbD 10 = true ∧ (0x0000#16 : Word).getLsbD 8 = false ∧
    Issued standby (issue 0x20 [1]) 0x20#8 [1] ∧ Issued standby (issue 0x21 []) 0x21#8 [] ∧
    Issued standby (issue 0x21 [7, 1, 2, 3, 4, 5]) 0x21#8 [7, 1, 2, 3, 4, 5] := by decide +kernel

theorem witness_JournalMeetsEvents :
    (0x0000#16 : Word).getLsbD 0 = false ∧ (0x01FF#16 : Word).getLsbD 0 = true ∧ (0x01FF#16 : Word).getLsbD 10 = false ∧
    (0x05FF#16 : Word).getLsbD 10 = true ∧ standby.journal.entries.length < 32 ∧
    32 ≤ (List.replicate 32 (⟨0#16, 0#32, 0#8, 0#8, 0#8, []⟩ : Entry)).length := by decide +kernel

theorem witness_ClaimTakesTheMostUrgent :
    Sent linkMarked (frame kindFetch [0x69]) kindFetch [0x69#8] ∧ (linkMarked.attn.latch .link).nonempty = true ∧
    field linkMarked.cfg.attnFloor 0 3 < 5 ∧ linkMarked.cfg.priority .link = 5#3 ∧ linkMarked.attn.stack = [] ∧
    (∀ src ∈ allSources, (operate.attn.latch src).nonempty = false) ∧
    (let s := after (exec (.claim (frame kindFetch [0x69])) linkMarked)
     s.Awake ∧ s.attn.claim = some ⟨.link, 5#3, .codes ⟨0#8, 0#8⟩⟩ ∧
      s.link.phase = .replying ⟨0#8, 0x5A#8, [8, 5, 0x84, 1]⟩ true .claim) := by decide +kernel

theorem witness_MarksReachLatchAndLateRecord :
    Source.link ≠ .port 7 ∧ (after (exec (.claim (frame kindFetch [0x69])) linkMarked)).attn.claim =
      some ⟨.link, 5#3, .codes ⟨0#8, 0#8⟩⟩ ∧ standby.attn.claim = none ∧
    (standby.conf 0).attnMask.getLsbD 9 = false ∧ (standby.conf 0).attnMask.getLsbD 8 = true ∧
    linkMarked.attn.latch .link = .codes ⟨0x84#8, 1#8⟩ ∧
    (let claimed : State := { standby with attn := { standby.attn with claim := some ⟨.port 0, 5#3, .causes 0#10⟩ } }
     (claimed.conf 0).attnMask.getLsbD 8 = true ∧ claimed.attn.claim.map (fun c => c.late) = some (.causes 0#10) ∧
       (Source.link ≠ .port 0)) := by decide +kernel

theorem witness_ReleaseDismissAndReprogram :
    Issued standby (issue 0x24 []) 0x24#8 [] ∧ standby.attn.stack = [] ∧
    ({ standby with attn := { standby.attn with stack := [⟨.link, 5#3⟩] } } : State).attn.stack = [⟨.link, 5#3⟩] ∧
    sourceNumber .mode = (14#8 : Byte).toNat ∧ Issued standby (issue 0x25 [14]) 0x25#8 [14] ∧
    Issued standby (issue 0x24 [0]) 0x24#8 [0] ∧ Issued standby (issue 0x25 [15]) 0x25#8 [15] ∧
    Sent standby (writeHead 0x02B#16 0x0777#16) kindWrite (entryBytes [⟨BitVec.ofNat 16 (0x028 + 3), 0x0777#16⟩]) ∧
    (0x0777#16 : Word) &&& 0xF888#16 = 0#16 ∧
    Sent standby (writeHead 0x02B#16 0x7000#16) kindWrite (entryBytes [⟨BitVec.ofNat 16 (0x028 + 3), 0x7000#16⟩]) ∧
    (0x7000#16 : Word) &&& 0xF888#16 ≠ 0#16 ∧
    Sent standby (writeHead 0x022#16 7#16) kindWrite (entryBytes [⟨0x0022#16, 7#16⟩]) ∧
    Sent standby (writeHead 0x022#16 8#16) kindWrite (entryBytes [⟨0x0022#16, 8#16⟩]) := by decide +kernel

theorem witness_StoreCommandsExecute :
    Issued (pendingConfirm standby 0x30#8 []) (issue 1 [0x30]) 0x01#8 [0x30] ∧
    (pendingConfirm standby 0x30#8 []).link.confirm = some ⟨0x30#8, [], 4#8⟩ ∧ standby.mode = .standby ∧
    standby.store.commit = .idle ∧ Issued (pendingConfirm standby 0x32#8 []) (issue 1 [0x32]) 0x01#8 [0x32] ∧
    (pendingConfirm standby 0x32#8 []).link.confirm = some ⟨0x32#8, [], 4#8⟩ ∧
    Issued standby (issue 0x31 [0, 3, 0xE0, 32]) 0x31#8 [0, 3, 0xE0, 32] ∧
    Issued standby (issue 0x31 [2, 5, 0xFF, 1]) 0x31#8 [2, 5, 0xFF, 1] ∧
    Issued standby (issue 0x31 [1, 6, 0, 1]) 0x31#8 [1, 6, 0, 1] ∧ Issued standby (issue 0x31 [3, 0, 0, 1]) 0x31#8 [3, 0, 0, 1] ∧
    Issued standby (issue 0x31 []) 0x31#8 [] := by decide +kernel

/-- An array in canonical form without left-overs is in form, whatever commit is in progress. -/
theorem array_in_form {s : State} (h : Memory.wf s.store.cells = true) (ha : s.store.leftA = none) (hb : s.store.leftB = none) :
    s.ArrayInForm := by
  refine ⟨h, fun job _ => ?_⟩
  cases job.target
  · exact ha
  · exact hb

theorem witness_CommitPhasesProceed :
    standby.Awake ∧ standby.ArrayInForm ∧ (committing (.erasing ⟨.a, 1#16, standby.cfg⟩)).ArrayInForm ∧
    (committing (.programming ⟨.a, 1#16, standby.cfg⟩)).ArrayInForm ∧
    (committing (.verifying ⟨.b, 1#16, standby.cfg⟩)).ArrayInForm :=
  ⟨rfl, array_in_form rfl rfl rfl, array_in_form rfl rfl rfl, array_in_form rfl rfl rfl, array_in_form rfl rfl rfl⟩

/-- An array in which bank A holds the image of the factory defaults at generation 1. -/
def imaged : Store := Store.erased.program .a 0 (Settings.factory.image 1#16)

theorem witness_CommittedImageLoadsBack :
    imaged.bytesAt (.bank .a) 0 307 = Settings.factory.image 1#16 ∧ Store.erased.byteAt (.bank .a) 0 = 0xFF#8 ∧
    valueLegal .deviceSettings Settings.factory.deviceSettings = true ∧ Settings.factory.autoArm.toNat ≤ 8 ∧
    (∀ r : Fin 4, valueLegal (.attnPriority r) Settings.factory.attnPriority[r] = true) ∧
    portValueLegal 0 PortConfig.factory.portMode = true ∧ portValueLegal 1 PortConfig.factory.feedGuard = true ∧
    portValueLegal 3 PortConfig.factory.safeAction = true ∧ portValueLegal 4 PortConfig.factory.lineConfig = true ∧
    portValueLegal 5 PortConfig.factory.quota = true ∧ portValueLegal 7 PortConfig.factory.attnMask = true ∧
    portValueLegal 11 PortConfig.factory.outputLen = true := by
  refine ⟨?_, by decide +kernel⟩
  rw [← Settings.image_length Settings.factory 1#16]
  exact Store.bytesAt_program _ rfl .a rfl 0 _ (by rw [Settings.image_length]; decide)

/-- The smallest valid image: an END packet alone. -/
def emptyImage (generation : Word) : List Byte :=
  let body := signature ++ wordBytes generation ++ [0, 2, 0xFF, 0]
  body ++ wordBytes (settingsCrc body)

/-- The state after reset with a valid bank A, or with both banks valid and B newer. -/
def withBankA : State := State.reset.modStore (fun st => st.program .a 0 (emptyImage 0xFFFF#16))
def withBanks : State := withBankA.modStore (fun st => st.program .b 0 (emptyImage 0#16))

theorem witness_LoadEndsStartup :
    State.reset.Awake ∧ State.reset.mode = .startup ∧ operate.mode ≠ .startup ∧ withBankA.mode = .startup ∧
    withBankA.store.judgeArea (.bank .a) = some [] ∧ withBankA.store.judgeArea (.bank .b) = none ∧
    (after (exec .storeLoadComplete withBankA)).store.current = some .a ∧ withBanks.store.judgeArea (.bank .b) = some [] ∧
    (after (exec .storeLoadComplete withBanks)).store.current = some .b := by decide +kernel

theorem witness_PortResetActsOnItsPort :
    Issued tether (issue 0x39 [0]) 0x39#8 [BitVec.ofNat 8 (0 : Fin 8).val] ∧
    Issued standby (issue 0x39 [7]) 0x39#8 [BitVec.ofNat 8 (7 : Fin 8).val] := by decide +kernel

theorem witness_ResetIntervalTakesNoEvent :
    (State.reset.beginReset .pin).resetLine ≠ none ∧ (∀ line, Instr.tick 0 ≠ .resetInterval line) ∧
    (∀ x, Instr.tick 0 ≠ .deviceResetStep x) ∧ (0 : Fin 8) < 7 := ⟨by decide +kernel, nofun, nofun, by decide⟩

theorem witness_DeviceResetStepSetsEveryBlock :
    Issued (pendingConfirm operate 0x38#8 []) (issue 1 [0x38]) 0x01#8 [0x38] ∧
    (pendingConfirm operate 0x38#8 []).link.confirm = some ⟨0x38#8, [], 4#8⟩ ∧ operate.journal.entries.length < 32 ∧
    (let s : State := { pendingConfirm operate 0x38#8 [] with
       journal := { operate.journal with entries := List.replicate 32 ⟨0#16, 0#32, 0#8, 0#8, 0#8, []⟩ } }
     Issued s (issue 1 [0x38]) 0x01#8 [0x38] ∧ s.link.confirm = some ⟨0x38#8, [], 4#8⟩ ∧ 32 ≤ s.journal.entries.length) := by
  decide +kernel

/-- A state that meets every invariant and has work in its queue. -/
def busy : State := { State.reset with pending := [.storeLoadComplete] }

theorem witness_ArrayKeepsItsForm : busy.ArrayInForm ∧ step busy = .next (after (step busy)) :=
  ⟨array_in_form rfl rfl rfl, next_after (by decide +kernel)⟩

theorem witness_JournalKeepsItsOrder : busy.JournalInOrder ∧ step busy = .next (after (step busy)) := by
  refine ⟨⟨by decide +kernel, fun i e h => ?_, by decide +kernel⟩, next_after (by decide +kernel)⟩
  match i with
  | 0 => cases h; decide
  | n + 1 => cases h

theorem witness_AttentionKeepsItsOrder : busy.AttentionInOrder ∧ step busy = .next (after (step busy)) := by
  refine ⟨⟨List.Pairwise.nil, nofun, nofun, ?_⟩, next_after (by decide +kernel)⟩
  constructor
  · exact nofun
  · rintro ⟨-, src, h, hn, -⟩
    exact absurd hn ((by decide +kernel : ∀ src ∈ allSources, (busy.attn.latch src).nonempty ≠ true) src h)

theorem witness_ModesAndOutputsKeepInOrder : busy.ModesInOrder ∧ step busy = .next (after (step busy)) := by
  refine ⟨⟨by decide +kernel, by decide +kernel, by decide +kernel, by decide +kernel, by decide +kernel, fun p o => ?_⟩,
    next_after (by decide +kernel)⟩
  revert p
  cases o <;> (unfold Output.Fits; decide +kernel)

theorem witness_EnginesKeepInOrder : busy.EnginesInOrder ∧ step busy = .next (after (step busy)) := by
  refine ⟨⟨by decide +kernel, fun p => ?_, by decide +kernel, by decide +kernel, by decide +kernel⟩,
    next_after (by decide +kernel)⟩
  have h : busy.port p = Port.reset := (by decide +kernel : ∀ p, busy.port p = Port.reset) p
  rw [h]
  exact ⟨nofun, nofun, nofun, nofun, nofun, ⟨fun h => absurd rfl h, fun ⟨_, h, _⟩ => nomatch h⟩, nofun, by decide +kernel, by
    decide +kernel⟩

end Sys2Proof.Tests
end

/-! The bytes of a request (section 1.1): what a frame sent by software is read as, the entries of a WRITE payload, and the selectors. -/

namespace Sys2Proof.Machine

/-- The fields of a HEADER byte, read back. -/
theorem headerByte_fields (kind unit : BitVec 3) (low : BitVec 2) :
    (headerByte kind unit low).extractLsb' 5 3 = kind ∧ (headerByte kind unit low).extractLsb' 2 3 = unit ∧
      (headerByte kind unit low).extractLsb' 0 2 = low := by
  revert kind unit low; decide

/-- A LENGTH byte within its kind's range is the payload's length: a payload too long for the byte is out of every range. -/
theorem lengthByte_of_legal {kind : BitVec 3} {payload : List Byte} (h : lengthLegal kind (lengthByte payload).toNat = true) :
    (lengthByte payload).toNat = payload.length := by
  have hb : (lengthByte payload).toNat = min payload.length 255 := by
    unfold lengthByte byteOf; rw [BitVec.toNat_ofNat]; omega
  have hn : min payload.length 255 ≤ 32 := by
    rw [hb] at h
    unfold lengthLegal at h
    split at h <;> simp at h <;> omega
  omega

/-- The bytes that software clocks for a frame are read as the request of `requestOf` (R1). -/
theorem completedRequest_frameBytes (f : FrameHead) (kind : BitVec 3) (payload : List Byte) :
    completedRequest (frameBytes f kind payload) = some (requestOf f kind payload) := by
  obtain ⟨hkind, hunit, hlow⟩ := headerByte_fields kind f.unit 0#2
  unfold completedRequest frameBytes requestOf
  simp only [List.cons_append, List.nil_append, hkind, hunit, hlow]
  by_cases h : (headerLegal kind 0#2 && lengthLegal kind (lengthByte payload).toNat) = true
  · have hn := lengthByte_of_legal (Bool.and_eq_true _ _ ▸ h).2
    rw [if_pos h, if_pos h, hn, List.drop_left, List.take_left]
  · rw [if_neg h, if_neg h]
    cases payload <;> rfl

/-- A frame given by its bytes is the frame itself (R10; notes/assumptions/26.md). -/
theorem exec_reject_frameBytes (f : FrameHead) (kind : BitVec 3) (payload : List Byte) (s : State) :
    exec (.reject (frameBytes f kind payload)) s = takeFrame (requestOf f kind payload) s := by
  rw [exec_reject]
  unfold takeFrame State.bytes
  simp only [completedRequest_frameBytes]

/-- The payload of a WRITE has four bytes for each entry. -/
@[simp] theorem entryBytes_length (entries : List WriteEntry) : (entryBytes entries).length = 4 * entries.length := by
  unfold entryBytes
  induction entries with
  | nil => rfl
  | cons e es ih => rw [List.flatMap_cons, List.length_append, ih]; simp [wordBytes]; omega

/-- The entries of a WRITE, read back from its payload (section 1.2). -/
@[simp] theorem entriesOf_entryBytes (entries : List WriteEntry) : entriesOf (entryBytes entries) = entries := by
  induction entries with
  | nil => rfl
  | cons e es ih =>
    show entriesOf (hiByte e.address :: loByte e.address :: hiByte e.value :: loByte e.value :: entryBytes es) = e :: es
    rw [entriesOf, ih, wordOf_bytes, wordOf_bytes]

/-- A WRITE of 1 to 8 entries has a LENGTH in range (section 1.2). -/
theorem write_length {entries : List WriteEntry} (h1 : 1 ≤ entries.length) (h8 : entries.length ≤ 8) :
    lengthLegal kindWrite (entryBytes entries).length = true := by
  rw [entryBytes_length]; simp [lengthLegal, kindWrite]; omega

/-- A POST with at most 24 data bytes has a LENGTH in range (section 1.2). -/
theorem post_length {selector tag op subindex : Byte} {index : Word} {data : List Byte} (h : data.length ≤ 24) :
    lengthLegal kindPost ([selector, tag, op] ++ wordBytes index ++ [subindex] ++ data).length = true := by
  simp [lengthLegal, kindPost, wordBytes]; omega

/-- The stream that a selector names (R4). -/
theorem selectorStream_eq (selector : Byte) :
    selectorStream selector =
      if selector.extractLsb' 4 4 = ~~~selector.extractLsb' 0 4 then some (selector.extractLsb' 0 4).toNat else none := rfl

/-- The selector of a stream names it (R4). -/
@[simp] theorem selectorStream_selectorOf (stream : BitVec 4) : selectorStream (selectorOf stream) = some stream.toNat := by
  revert stream; decide

end Sys2Proof.Machine

/-! O1 and O2: the step, the bytes of the typed frames, and the MISO pin. -/

namespace Sys2Proof.Machine

/-! ### The step -/

/-- One millisecond of a keepalive timer that runs (R165). -/
theorem Keepalive.millisecond_running {k : Keepalive} (h : k.state = .armed ∨ k.state = .warned) :
    k.millisecond = { k with elapsedMs := k.elapsedMs + 1 } := by
  rcases h with h | h <;> simp [Keepalive.millisecond, KaState.running, h]

/-- A stopped keepalive timer keeps its time (R165). -/
theorem Keepalive.millisecond_stopped {k : Keepalive} (ha : k.state ≠ .armed) (hw : k.state ≠ .warned) :
    k.millisecond = k := by
  unfold Keepalive.millisecond
  cases h : k.state with
  | armed => exact absurd h ha
  | warned => exact absurd h hw
  | disarmed | expired | suspended => rfl

/-- A step on an empty queue is a millisecond (notes/assumptions/1.md). -/
theorem step_of_empty {s : State} (h : s.pending = []) : step s = .next s.idle := by unfold step; rw [h]

/-- A millisecond during a reset interval changes nothing (R184). -/
theorem State.idle_asleep {s : State} (h : s.resetLine ≠ none) : s.idle = s := by
  unfold State.idle
  rw [if_pos (Option.isSome_iff_ne_none.2 h)]

/-- A millisecond outside a reset interval (R150, R165). -/
theorem State.idle_awake {s : State} (h : s.resetLine = none) :
    s.idle = { s with timeBase := s.timeBase + 1#32, ka := s.ka.millisecond } := by
  unfold State.idle
  rw [h]
  rfl

/-- Settles O1, by the equations of the step on a queue and on an empty queue. -/
theorem stepRunsFrontCommand : Obligations.StepRunsFrontCommand := by
  refine ⟨fun c rest s => rfl, fun s hq => ?_⟩
  rw [step_of_empty hq]
  refine ⟨fun h => ?_, fun h hk => ?_, fun h ha hw => ?_⟩
  · rw [State.idle_asleep h]
  · rw [State.idle_awake h, Keepalive.millisecond_running hk]
  · rw [State.idle_awake h, Keepalive.millisecond_stopped ha hw]

/-! ### The typed frames -/

/-- Each command that is one host frame does what the bytes of that frame do (notes/assumptions/26.md). -/
theorem exec_eq_reject_of_frameOf {c : Instr} {bytes : List Byte} (s : State) (h : frameOf c = some bytes) :
    exec c s = exec (.reject bytes) s := by
  cases c <;> first
    | exact absurd h.symm (Option.some_ne_none _)
    | (cases Option.some.inj h; rw [exec_reject_frameBytes]; rfl)

/-! ### The MISO pin -/

/-- The fields of the quick status byte (R2). -/
theorem quickByte_fields (m : Mode) (atn entries done confirm inhibit : Bool) :
    let quick := byteOf (64 * modeCode m + 32 * bitNat (m == .startup) + 16 * bitNat atn + 8 * bitNat entries
      + 4 * bitNat done + 2 * bitNat confirm + bitNat inhibit)
    quick.extractLsb' 6 2 = BitVec.ofNat 2 (modeCode m) ∧ quick.getLsbD 5 = (m == .startup) ∧ quick.getLsbD 4 = atn ∧
      quick.getLsbD 3 = entries ∧ quick.getLsbD 2 = done ∧ quick.getLsbD 1 = confirm ∧ quick.getLsbD 0 = inhibit := by
  cases m <;> revert atn entries done confirm inhibit <;> decide

/-- Every port is among the ports 0 to 7. -/
theorem mem_allPorts (p : Fin 8) : p ∈ allPorts := by revert p; decide

/-- Some port satisfies a test. -/
theorem allPorts_any (f : Fin 8 → Bool) : allPorts.any f = true ↔ ∃ p, f p = true := by
  rw [List.any_eq_true]
  exact ⟨fun ⟨p, _, h⟩ => ⟨p, h⟩, fun ⟨p, h⟩ => ⟨p, mem_allPorts p, h⟩⟩

/-- The inhibit line (R75). -/
theorem State.inhibit_iff (s : State) : s.inhibit = true ↔ s.sup.field ≠ .good ∨ s.sup.hot = true := by
  simp [State.inhibit]

/-- Outside a reset interval the request phase shows the quick status (R2). -/
theorem State.misoRequest_awake {s : State} (h : s.resetLine = none) : s.misoRequest = s.quickStatus := by
  unfold State.misoRequest; rw [h]; rfl

/-- What MISO shows between and after frames, outside a reset interval (R1, R2, R16, R24). -/
theorem State.misoNext_awake {s : State} (h : s.resetLine = none) (n : Nat) :
    s.misoNext n =
      match s.link.phase with
      | .replying r _ _ => r.bytes.getD n 0x00#8
      | .ignoring => 0x00#8
      | .idle => s.quickStatus := by
  unfold State.misoNext; rw [h]; rfl

/-- A reply has four bytes beside its payload (section 1.1). -/
@[simp] theorem Reply.bytes_length (r : Reply) : r.bytes.length = 4 + r.payload.length := by
  unfold Reply.bytes; simp; omega

/-- Settles O2: by the reading of a frame's own bytes, and by the fields of the quick status byte. -/
theorem hostFramesAreTheirBytes : Obligations.HostFramesAreTheirBytes := by
  refine ⟨fun c bytes s h => exec_eq_reject_of_frameOf s h, fun s => ⟨fun h => ?_, fun h => ?_⟩⟩
  · have hs : s.resetLine.isSome = true := Option.isSome_iff_ne_none.2 h
    exact ⟨if_pos hs, fun n => if_pos hs⟩
  · obtain ⟨hmode, hstart, hatn, hentries, hdone, hconfirm, hinhibit⟩ := quickByte_fields s.mode s.atn
      (!s.journal.entries.isEmpty) (allPorts.any (fun p => !(s.port p).done.isEmpty)) s.link.confirm.isSome s.inhibit
    rw [State.misoRequest_awake h]
    refine ⟨hmode.trans (by cases s.mode <;> rfl), ?_, ?_, ?_, ?_, ?_, ?_, ?_, ?_, ?_⟩
    · rw [State.quickStatus, hstart, beq_iff_eq]
    · rw [State.quickStatus, hatn]
    · rw [State.quickStatus, hentries]; simp
    · rw [State.quickStatus, hdone, allPorts_any]; simp
    · rw [State.quickStatus, hconfirm, Option.isSome_iff_ne_none]
    · rw [State.quickStatus, hinhibit, State.inhibit_iff]
    · intro hp n; rw [State.misoNext_awake h, hp]
    · intro hp n; rw [State.misoNext_awake h, hp]
    · intro r recorded d hp
      refine ⟨fun n b hb => ?_, fun n hn => ?_⟩ <;> rw [State.misoNext_awake h, hp]
      · exact (List.getD_eq_getElem?_getD ..).trans (by rw [show r.bytes[n]? = some b from hb]; rfl)
      · exact (List.getD_eq_getElem?_getD ..).trans
          (by rw [List.getElem?_eq_none (by rw [Reply.bytes_length]; exact hn)]; rfl)

end Sys2Proof.Machine

/-! The close of a step, and the commands of the link: NOOP, CLEAR_LINK_FAULT, the first steps, CONFIRM and the lapse (O3, O10, O11,
O12). -/

namespace Sys2Proof.Machine

/-! ### The close of a step -/

/-- The journal's call answered leaves everything but the journal and the attention controller (R143). -/
theorem State.callJournal_frame (s : State) (atn : Bool) :
    { s.callJournal with journal := s.journal, attn := s.attn, atn := atn } = { s with atn := atn } := by
  unfold State.callJournal; split <;> rfl

/-- The close of a step leaves everything but the journal, the attention controller and the ATN pin (R143, R156). -/
theorem State.finish_frame (s : State) : { s.finish with journal := s.journal, attn := s.attn, atn := s.atn } = s :=
  s.callJournal_frame s.atn

@[simp] theorem State.finish_mode (s : State) : s.finish.mode = s.mode := (congrArg State.mode s.finish_frame :)
@[simp] theorem State.finish_safeCause (s : State) : s.finish.safeCause = s.safeCause := (congrArg State.safeCause s.finish_frame :)
@[simp] theorem State.finish_deviceCondition (s : State) : s.finish.deviceCondition = s.deviceCondition :=
  (congrArg State.deviceCondition s.finish_frame :)
@[simp] theorem State.finish_resetCause (s : State) : s.finish.resetCause = s.resetCause :=
  (congrArg State.resetCause s.finish_frame :)
@[simp] theorem State.finish_resetLine (s : State) : s.finish.resetLine = s.resetLine := (congrArg State.resetLine s.finish_frame :)
@[simp] theorem State.finish_cfg (s : State) : s.finish.cfg = s.cfg := (congrArg State.cfg s.finish_frame :)
@[simp] theorem State.finish_link (s : State) : s.finish.link = s.link := (congrArg State.link s.finish_frame :)
@[simp] theorem State.finish_ports (s : State) : s.finish.ports = s.ports := (congrArg State.ports s.finish_frame :)
@[simp] theorem State.finish_sup (s : State) : s.finish.sup = s.sup := (congrArg State.sup s.finish_frame :)
@[simp] theorem State.finish_timeBase (s : State) : s.finish.timeBase = s.timeBase := (congrArg State.timeBase s.finish_frame :)
@[simp] theorem State.finish_ka (s : State) : s.finish.ka = s.ka := (congrArg State.ka s.finish_frame :)
@[simp] theorem State.finish_store (s : State) : s.finish.store = s.store := (congrArg State.store s.finish_frame :)
@[simp] theorem State.finish_pins (s : State) : s.finish.pins = s.pins := (congrArg State.pins s.finish_frame :)
@[simp] theorem State.finish_free (s : State) : s.finish.free = s.free := (congrArg State.free s.finish_frame :)
@[simp] theorem State.finish_pending (s : State) : s.finish.pending = s.pending := (congrArg State.pending s.finish_frame :)

/-- The close of a step forgets the journal's call and leaves the rest of the journal. -/
@[simp] theorem State.finish_journal (s : State) : s.finish.journal = { s.journal with call := none } := by
  unfold State.finish State.callJournal
  cases h : s.journal.call with
  | none => show s.journal = _; rw [← h]
  | some c => rfl

/-- A step whose journal calls for no attention marks nothing at its close (R143). -/
theorem State.finish_attn_of_no_call {s : State} (h : s.journal.call = none) : s.finish.attn = s.attn := by
  unfold State.finish State.callJournal; rw [h]

/-- ATN is judged at the close of the step (R156). -/
theorem State.finish_atn_of_no_call {s : State} (h : s.journal.call = none) : s.finish.atn = s.anyDeliverable := by
  unfold State.finish State.callJournal; rw [h]

/-! ### The link's own commands -/

/-- A command without arguments refuses any (R7). -/
theorem noArgs_cons (c : Command) {args : List Byte} (h : args ≠ []) : noArgs args c = .refused rejArgument := by
  cases args with
  | nil => exact absurd rfl h
  | cons a as => rfl

/-- Settles O3: both commands pass every check without arguments and are refused with any. -/
theorem noopAndClearLinkFault : Obligations.NoopAndClearLinkFault := by
  intro s f
  refine ⟨fun h => ?_, fun h => ?_, fun args ha hn => ⟨fun h => ?_, fun h => ?_⟩⟩
  · rw [exec_noop, issue_run (c := .noop) h (by simp) rfl (by simp) rfl rfl rfl]; rfl
  · rw [exec_clearLinkFault, issue_run (c := .clearLinkFault) h (by simp) rfl (by simp) rfl rfl rfl]; rfl
  · rw [exec_noop, issue_unparsed h hn (noArgs_cons .noop ha)]; rfl
  · rw [exec_clearLinkFault, issue_unparsed h hn (noArgs_cons .clearLinkFault ha)]; rfl

/-! ### The first steps (R21) -/

/-- The timer runs in ARMED and WARNED (R165). -/
theorem KaState.running_iff (k : KaState) : k.running = true ↔ k = .armed ∨ k = .warned := by cases k <;> simp [KaState.running]

/-- A commit is in progress outside IDLE (R179). -/
theorem Store.committing_iff (st : Store) : st.committing = true ↔ st.commit ≠ .idle := by
  simp [Store.committing]

/-- The first step of a confirmed command: remembered when its check passes, refused when it fails (R21). -/
theorem issue_first_step {s : State} {f : FrameHead} {code : Byte} {args : List Byte} {c : Command}
    (h : Issued s f code args) (hn : args.length ≤ 7) (hp : parseCommand code args = .ok c) (hf : c.confirmed = true) :
    takeFrame (issueFrame f code args) s =
      (c.check s).elim
        (.next ({ s.begun with link := { s.begun.link with confirm := some ⟨code, args, f.tag⟩ } }.answered f kindIssue
          0x01#8 [] .nothing).finish)
        (fun why => .next (s.rejected kindIssue f.tag why 0#16).finish) := by
  cases hk : c.check s with
  | some why => exact issue_refused h hn hp (fun x y hc => by rw [hc] at hf; exact Bool.false_ne_true hf) hk
  | none => exact issue_pend h hn hp hf hk

/-- The period code of KA_ARM (R167). -/
theorem parseCommand_kaArm {k : Byte} (h : k.toNat ≤ 7) : parseCommand 0x28#8 [k] = .ok (.kaArm (k.setWidth 3)) := by
  show argsOr (if k.toNat ≤ 7 then some (.kaArm (k.setWidth 3)) else none) = _
  rw [if_pos h]
  rfl

/-- The precondition of STORE_COMMIT and STORE_DEFAULTS (R179, R182): STANDBY, and no commit in progress. -/
theorem Command.check_store {c : Command} (h : c = .storeCommit ∨ c = .storeDefaults) (s : State) {α : Type} (pass : α)
    (fail : Byte → α) :
    (c.check s).elim pass fail =
      if s.mode ≠ .standby then fail 0x8A#8 else if s.store.commit ≠ .idle then fail 0x8B#8 else pass := by
  have hc : c.check s =
      if s.mode ≠ .standby then some rejState else if s.store.commit ≠ .idle then some rejBusy else none := by
    rcases h with rfl | rfl <;> simp only [Command.check, Store.committing_iff]
  rw [hc]
  split
  · rfl
  · split <;> rfl

/-- Settles O10: each first step passes or fails its command's own check. -/
theorem firstStepsOnlyRemember : Obligations.FirstStepsOnlyRemember := by
  intro s f
  refine ⟨fun k hk h => ?_, fun h => ?_, fun h => ?_, fun h => ?_, fun h => ?_⟩
  · rw [exec_kaArm, issue_first_step h (by simp) (parseCommand_kaArm hk) rfl]
    by_cases hm : s.mode = .operate <;> simp [Command.check, hm, rejState]
  · rw [exec_kaDisarm, issue_first_step (c := .kaDisarm) h (by simp) rfl rfl]
    simp only [Command.check, KaState.running_iff]
    split <;> rfl
  · rw [exec_storeCommit, issue_first_step (c := .storeCommit) h (by simp) rfl rfl]
    exact Command.check_store (.inl rfl) s _ _
  · rw [exec_storeDefaults, issue_first_step (c := .storeDefaults) h (by simp) rfl rfl]
    exact Command.check_store (.inr rfl) s _ _
  · rw [exec_softReset, issue_first_step (c := .softReset) h (by simp) rfl rfl]
    rfl

/-! ### CONFIRM (R22) -/

/-- A CONFIRM refused at step 14 or at its re-check: the pending confirmation is used up (R22). -/
theorem takeFrame_refuse_usesUp {s : State} {f : FrameHead} {kind : BitVec 3} {payload : List Byte} {why : Refused}
    (hk : headerLegal kind 0#2 = true) (hl : lengthLegal kind payload.length = true) (h : Sent s f kind payload)
    (ha : s.dropFrame.judgePayload kind.toNat payload = .reject why true) :
    takeFrame (requestOf f kind payload) s = .next (s.dropConfirm.rejected kind f.tag why.code why.address).finish := by
  obtain ⟨⟨hr, hm⟩, hf⟩ := h
  obtain ⟨hq, -, -⟩ := requestOf_legal f kind payload hk hl
  rw [takeFrame, takeEvent_awake hr]
  unfold State.frame
  simp only [State.dropFrame_mode, hm, if_false, State.judge_sent hk hl hf, ha, State.refuse, if_true]
  rw [hq]
  rfl

/-- A CONFIRM with nothing pending (R22). -/
theorem State.judgeConfirm_none {s : State} (code : Byte) (args : List Byte) (h : s.link.confirm = none) :
    s.judgeConfirm code args = .reject ⟨rejConfirm, 0#16⟩ true := by
  unfold State.judgeConfirm; rw [h]

/-- A CONFIRM of other bytes than those pending (R22). -/
theorem State.judgeConfirm_mismatch {s : State} {code : Byte} {args : List Byte} {r : Pending} (h : s.link.confirm = some r)
    (hne : ¬(r.code = code ∧ r.args = args)) : s.judgeConfirm code args = .reject ⟨rejConfirm, 0#16⟩ true := by
  unfold State.judgeConfirm
  simp only [h, Bool.and_eq_true, decide_eq_true_eq, hne, if_false]

/-- A CONFIRM of the command pending whose re-check fails (R22). -/
theorem State.judgeConfirm_fails {s : State} {r : Pending} {c : Command} {why : Byte} (h : s.link.confirm = some r)
    (hp : parseCommand r.code r.args = .ok c) (hk : c.check s = some why) :
    s.judgeConfirm r.code r.args = .reject ⟨why, 0#16⟩ true := by
  unfold State.judgeConfirm
  simp only [h, hp, hk, decide_true, Bool.and_self, if_true]

/-- A CONFIRM of the command pending whose re-check passes (R22). -/
theorem State.judgeConfirm_passes {s : State} {r : Pending} {c : Command} (h : s.link.confirm = some r)
    (hp : parseCommand r.code r.args = .ok c) (hk : c.check s = none) : s.judgeConfirm r.code r.args = .accept (.execute c) := by
  unfold State.judgeConfirm
  simp only [h, hp, hk, decide_true, Bool.and_self, if_true]

/-- A CONFIRM refused, by its judgement (R22). -/
theorem confirm_refused {s : State} {f : FrameHead} {code why : Byte} {args : List Byte} (h : Issued s f 0x01#8 (code :: args))
    (hn : args.length ≤ 6) (hj : s.dropFrame.judgeConfirm code args = .reject ⟨why, 0#16⟩ true) :
    exec (.confirm f (code :: args)) s = .next (s.dropConfirm.rejected kindIssue f.tag why 0#16).finish := by
  rw [exec_confirm, issueFrame, takeFrame_refuse_usesUp kindIssue_legal (issue_length (args := code :: args) (Nat.succ_le_succ hn)) h hj]

/-- Dropping a confirmation that does not exist. -/
theorem State.dropConfirm_of_none {s : State} (h : s.link.confirm = none) : s.dropConfirm = s := by
  obtain ⟨_, _, _, _, _, _, ⟨⟩⟩ := s
  cases h
  rfl

/-- Settles O11: the judgement of the CONFIRM decides in each case. -/
theorem confirmUsesUpTheRecord : Obligations.ConfirmUsesUpTheRecord := by
  refine ⟨fun s f h => issue_unparsed h (by simp) rfl, fun s f code args hn h => ?_⟩
  refine ⟨fun hc => ?_, fun r hc hne => ?_, fun r c why hc hcode hargs hp hk => ?_, fun r c hc hcode hargs hp hk => ?_⟩
  · have hj := State.judgeConfirm_none (s := s.dropFrame) code args hc
    exact (confirm_refused h hn hj).trans (by rw [State.dropConfirm_of_none hc]; rfl)
  · have hj := State.judgeConfirm_mismatch (s := s.dropFrame) hc (Classical.not_and_iff_not_or_not.2 hne)
    exact confirm_refused h hn hj
  · subst hcode hargs
    have hj := State.judgeConfirm_fails (s := s.dropFrame) hc hp ((Command.check_dropFrame c s).trans hk)
    exact confirm_refused h hn hj
  · subst hcode hargs
    have hj := State.judgeConfirm_passes (s := s.dropFrame) hc hp ((Command.check_dropFrame c s).trans hk)
    exact takeFrame_accept kindIssue_legal (issue_length (args := r.code :: r.args) (Nat.succ_le_succ hn)) h hj

/-! ### The lapse (R23) -/

/-- The lapse of a pending confirmation: its record is gone and its entry met. -/
theorem State.lapse_some {s : State} {r : Pending} (cause : Byte) (h : s.link.confirm = some r) :
    s.lapse cause = s.dropConfirm.log (evConfirmLapsed r cause) := by
  unfold State.lapse; rw [h]

/-- With nothing pending nothing lapses. -/
theorem State.lapse_none {s : State} (cause : Byte) (h : s.link.confirm = none) : s.lapse cause = s := by
  unfold State.lapse; rw [h]

/-- Settles O12: the lapse with a record and without one, at the timeout and at the beginning of a frame. -/
theorem confirmationLapses : Obligations.ConfirmationLapses := by
  refine fun s => ⟨fun r h => ⟨fun hr => ?_, ?_⟩, fun h => ⟨fun hr => ?_, ?_⟩⟩
  · rw [exec_confirmLapsed, takeEvent_awake hr, State.lapse_some _ h]; rfl
  · rw [State.begun, State.lapse_some (s := s.dropFrame) _ h]; rfl
  · rw [exec_confirmLapsed, takeEvent_awake hr, State.lapse_none _ h]
  · rw [State.begun, State.lapse_none (s := s.dropFrame) _ h]; rfl

end Sys2Proof.Machine

/-! The acceptance checks, rejects, runts and frame ends of the host link (O4 to O8). -/

namespace Sys2Proof.Machine

/-- An accepted frame that LINK_STATUS records: its own effect, its record and its reply (R13, R17). -/
theorem takeFrame_answered {s : State} {f : FrameHead} {kind : BitVec 3} {payload : List Byte} {a : Action} {d : Done}
    (hk : headerLegal kind 0#2 = true) (hl : lengthLegal kind payload.length = true) (h : Sent s f kind payload)
    (ha : s.dropFrame.judgePayload kind.toNat payload = .accept a) (hp : a.perform f.tag (a.endConfirm s.dropFrame) = d)
    (hd : d.recorded = true) :
    takeFrame (requestOf f kind payload) s = .next (d.state.answered f kind d.status d.payload d.delivery).finish := by
  rw [takeFrame_accept hk hl h ha, State.accept]
  obtain ⟨hq, -, -⟩ := requestOf_legal f kind payload hk hl
  have htag : (requestOf f kind payload).tag = f.tag := by rw [hq]
  rw [htag, hp, Done.close_recorded f kind payload hk hl hd]

/-! ### The first checks of R10 -/

/-- Step 1 of R10 fails exactly for the unused kinds and for a low header bit. -/
theorem headerLegal_eq_false (kind : BitVec 3) (low : BitVec 2) :
    headerLegal kind low = false ↔ kind.toNat = 0 ∨ kind.toNat = 6 ∨ kind.toNat = 7 ∨ low ≠ 0#2 := by
  revert kind low; decide

/-- The checks of the steps 1 to 4 of R10, each with its code. -/
theorem State.judge_kind {s : State} {f : Frame} (hk : headerLegal f.kind f.low = false) : s.judge f = rejectWith rejKind := by
  unfold State.judge; rw [hk]; rfl

@[inherit_doc State.judge_kind]
theorem State.judge_unit {s : State} {f : Frame} (hk : headerLegal f.kind f.low = true) (hu : f.unit ≠ s.link.unit) :
    s.judge f = rejectWith rejUnit := by
  unfold State.judge; rw [hk, if_pos hu]; rfl

@[inherit_doc State.judge_kind]
theorem State.judge_length {s : State} {f : Frame} (hk : headerLegal f.kind f.low = true) (hu : f.unit = s.link.unit)
    (hl : lengthLegal f.kind f.length.toNat = false) : s.judge f = rejectWith rejLength := by
  unfold State.judge; rw [hk, if_neg (Classical.not_not.2 hu), hl]; rfl

@[inherit_doc State.judge_kind]
theorem State.judge_crc {s : State} {f : Frame} (hk : headerLegal f.kind f.low = true) (hu : f.unit = s.link.unit)
    (hl : lengthLegal f.kind f.length.toNat = true) (hc : f.check ≠ frameCrc f.covered) : s.judge f = rejectWith rejCrc := by
  unfold State.judge; rw [hk, if_neg (Classical.not_not.2 hu), hl, if_pos hc]; rfl

/-- The bytes of a completed request outside a reset interval: the frame as one step. -/
theorem exec_reject_completed {s : State} {mosi : List Byte} {f : Frame} (hr : s.resetLine = none)
    (h : completedRequest mosi = some f) : exec (.reject mosi) s = .next (s.frame f).finish := by
  rw [exec_reject, takeEvent_awake hr]; unfold State.bytes; rw [h]

/-- A frame judged and rejected (R12, R20). -/
theorem State.frame_rejected {s : State} {f : Frame} {why : Refused} (hm : s.mode ≠ .startup)
    (hj : s.dropFrame.judge f = .reject why false) : s.frame f = s.rejected f.kind f.tag why.code why.address := by
  unfold State.frame
  simp only [State.dropFrame_mode, hm, if_false, hj]
  rfl

/-- The steps 1 to 4 of R10 in order, over the bytes of a completed request. -/
theorem firstChecksInOrder {s : State} {mosi : List Byte} {f : Frame} (h : s.Listens) (hf : completedRequest mosi = some f) :
    let kindBad := f.kind.toNat = 0 ∨ f.kind.toNat = 6 ∨ f.kind.toNat = 7 ∨ f.low ≠ 0#2
    let refused (code : Byte) : Prop := exec (.reject mosi) s = .next (s.rejected f.kind f.tag code 0#16).finish
    (kindBad → refused 0x81#8) ∧ (¬kindBad → f.unit ≠ s.link.unit → refused 0x82#8) ∧
    (¬kindBad → f.unit = s.link.unit → lengthLegal f.kind f.length.toNat = false → refused 0x83#8) ∧
    (¬kindBad → f.unit = s.link.unit → ¬lengthLegal f.kind f.length.toNat = false → f.check ≠ frameCrc f.covered →
      refused 0x84#8) := by
  obtain ⟨hr, hm⟩ := h
  have refused {code : Byte} (hj : s.dropFrame.judge f = rejectWith code) :
      exec (.reject mosi) s = .next (s.rejected f.kind f.tag code 0#16).finish := by
    rw [exec_reject_completed hr hf, State.frame_rejected hm hj]
  intro kindBad _
  have legal (hk : ¬kindBad) : headerLegal f.kind f.low = true :=
    Bool.of_not_eq_false (fun h => hk ((headerLegal_eq_false _ _).1 h))
  exact ⟨fun hk => refused (State.judge_kind ((headerLegal_eq_false _ _).2 hk)),
    fun hk hu => refused (State.judge_unit (legal hk) hu),
    fun hk hu hl => refused (State.judge_length (legal hk) hu hl),
    fun hk hu hl hc => refused (State.judge_crc (legal hk) hu (Bool.of_not_eq_false hl) hc)⟩

/-! ### Selectors and command codes (R4, R7, R8) -/

/-- A FETCH of no stream (R4). -/
theorem judgeFetch_refused {selector : Byte}
    (h : selector.extractLsb' 4 4 ≠ ~~~selector.extractLsb' 0 4 ∨ 10 ≤ (selector.extractLsb' 0 4).toNat) :
    judgeFetch selector = rejectWith rejSelector := by
  unfold judgeFetch
  rw [selectorStream_eq]
  by_cases hs : selector.extractLsb' 4 4 = ~~~selector.extractLsb' 0 4
  · rw [if_pos hs]
    exact if_neg (by have := h.resolve_left (Classical.not_not.2 hs); omega)
  · rw [if_neg hs]

/-- A FETCH of a stream 0 to 9 (R4, R8). -/
theorem judgeFetch_accepted {selector : Byte} (hs : selector.extractLsb' 4 4 = ~~~selector.extractLsb' 0 4)
    (hn : (selector.extractLsb' 0 4).toNat ≤ 9) :
    judgeFetch selector = .accept (.fetch (selector.extractLsb' 0 4).toNat) := by
  unfold judgeFetch
  rw [selectorStream_eq, if_pos hs]
  exact if_pos hn

/-- No port has a number from 8 upward. -/
theorem portOf_of_le {n : Nat} (h : 8 ≤ n) : portOf n = none := dif_neg (by omega)

/-- A port has its number. -/
@[simp] theorem portOf_val (p : Fin 8) : portOf p.val = some p := dif_pos p.isLt

/-- A POST to no port (R4). -/
theorem State.judgePostFrame_selector {s : State} {selector : Byte} (tag op : Byte) (index : Word) (subindex : Byte)
    (data : List Byte)
    (h : selector.extractLsb' 4 4 ≠ ~~~selector.extractLsb' 0 4 ∨ 8 ≤ (selector.extractLsb' 0 4).toNat) :
    s.judgePostFrame selector tag op index subindex data = rejectWith rejSelector := by
  have hs : (selectorStream selector).bind portOf = none := by
    rw [selectorStream_eq]
    split <;> rename_i hs
    · exact portOf_of_le (h.resolve_left (Classical.not_not.2 hs))
    · rfl
  unfold State.judgePostFrame
  rw [hs]

/-- A FETCH is answered ACCEPTED or EMPTY (R8), and LINK_STATUS records it. -/
theorem State.fetch_status (s : State) (stream : Nat) :
    ((s.fetch stream).status = stAccepted ∨ (s.fetch stream).status = stEmpty) ∧ (s.fetch stream).recorded = true := by
  unfold State.fetch
  split
  · unfold State.fetchPort; split <;> simp [empty]
  · split
    · unfold State.fetchJournal; split <;> simp [empty]
    · unfold State.fetchClaim; split <;> simp [empty]

/-- A code that the spec does not give is refused whatever its arguments (R7). -/
theorem parseCommand_unknown {code : Byte} (args : List Byte)
    (h : code ∉ [0x01#8, 0x02#8, 0x03#8, 0x08#8, 0x09#8, 0x0A#8, 0x0B#8, 0x0C#8, 0x10#8, 0x18#8, 0x19#8, 0x1A#8, 0x1B#8, 0x1C#8,
        0x1D#8, 0x20#8, 0x21#8, 0x24#8, 0x25#8, 0x28#8, 0x29#8, 0x2A#8, 0x30#8, 0x31#8, 0x32#8, 0x38#8, 0x39#8]) :
    parseCommand code args = .refused rejCommand := by
  have hne (n : Nat) (hn : code.toNat = n) : code = BitVec.ofNat 8 n := by rw [← hn, BitVec.ofNat_toNat, BitVec.setWidth_eq]
  unfold parseCommand
  split
  case h_28 => rfl
  all_goals exact absurd (by rw [hne _ ‹_›]; decide) h

/-- Settles O4: the steps 1 to 4 by `firstChecksInOrder`, then the selectors and the command codes. -/
theorem acceptanceChecksInOrder : Obligations.AcceptanceChecksInOrder := by
  refine ⟨fun s mosi f h hf => firstChecksInOrder h hf, fun s f selector => ⟨fun h hbad => ?_, ?_, fun h hs hn => ?_, ?_⟩⟩
  · rw [exec_fetchPortStream, fetchFrame, takeFrame_refuse kindFetch_legal rfl h (judgeFetch_refused hbad)]; rfl
  · intro hostTag op index subindex data hn h hbad
    have hj := State.judgePostFrame_selector (s := s.dropFrame) hostTag op (wordOf (hiByte index) (loByte index)) subindex data hbad
    rw [exec_post, takeFrame_refuse kindPost_legal (post_length hn) h hj]; rfl
  · have hj := judgeFetch_accepted (Classical.not_not.1 hs) hn
    have hd := s.begun.fetch_status (selector.extractLsb' 0 4).toNat
    exact ⟨_, _, _, _, takeFrame_answered kindFetch_legal rfl h hj rfl hd.2, by rw [State.finish_link]; rfl, hd.1⟩
  · intro code args hn h hcode
    exact (exec_reject_frameBytes ..).trans (issue_unparsed h hn (parseCommand_unknown args hcode))

end Sys2Proof.Machine

/-! What rejects, runts and frame ends leave (O5 to O8). -/

namespace Sys2Proof.Machine

/-! ### The codes of the checks (R12) -/

/-- A judgement of a frame of some kind rejects with no code of a runt, and uses up the pending confirmation only for an ISSUE. -/
def Judgement.RejectsFrame (kind : Nat) (j : Judgement) : Prop :=
  ∀ why usesUp, j = .reject why usesUp → why.code ≠ codeRunt ∧ (usesUp = true → kind = 3)

theorem Judgement.rejectsFrame_accept (kind : Nat) (a : Action) : (Judgement.accept a).RejectsFrame kind := nofun

theorem Judgement.rejectsFrame_reject {kind : Nat} {why : Refused} {usesUp : Bool} (hc : why.code ≠ codeRunt)
    (hu : usesUp = true → kind = 3) : (Judgement.reject why usesUp).RejectsFrame kind := by
  rintro _ _ ⟨⟩
  exact ⟨hc, hu⟩

theorem rejectsFrame_rejectWith {kind : Nat} {code : Byte} (hc : code ≠ codeRunt) : (rejectWith code).RejectsFrame kind :=
  Judgement.rejectsFrame_reject hc nofun

theorem rejectsFrame_acceptUnless {kind : Nat} {why : Option Refused} {a : Action} (hc : ∀ w, why = some w → w.code ≠ codeRunt) :
    (acceptUnless why a).RejectsFrame kind := by
  cases why with
  | none => exact Judgement.rejectsFrame_accept kind a
  | some w => exact Judgement.rejectsFrame_reject (hc w rfl) nofun

theorem rejectsFrame_acceptUnlessCode {kind : Nat} {why : Option Byte} {a : Action} (hc : ∀ c, why = some c → c ≠ codeRunt) :
    (acceptUnlessCode why a).RejectsFrame kind := by
  cases why with
  | none => exact Judgement.rejectsFrame_accept kind a
  | some c => exact rejectsFrame_rejectWith (hc c rfl)

/-- The codes with which a WRITE is refused (R5, R39 to R41). -/
theorem State.judgeWrite_code {s : State} {entries : List WriteEntry} {w : Refused} (h : s.judgeWrite entries = some w) :
    w.code ≠ codeRunt := by
  unfold State.judgeWrite at h
  split at h
  · cases h; exact (by decide : rejAddress ≠ codeRunt)
  · split at h
    · cases h; exact (by decide : rejAccess ≠ codeRunt)
    · repeat' split at h
      all_goals cases h <;> decide

/-- The codes with which a READ is refused (R6). -/
theorem judgeRead_code {start : Word} {count : Byte} {w : Refused} (h : judgeRead start count = some w) : w.code ≠ codeRunt := by
  unfold judgeRead at h
  split at h
  · cases h; exact (by decide : rejAddress ≠ codeRunt)
  · split at h
    · cases h
    · cases h; decide

/-- The codes with which a POST is refused at steps 9, 12 and 13 (R128, R129). -/
theorem State.judgePost_code {s : State} {p : Fin 8} {c : Byte} (h : s.judgePost p = some c) : c ≠ codeRunt := by
  unfold State.judgePost at h
  simp only [] at h
  repeat' split at h
  all_goals cases h <;> decide

/-- The codes with which a command's preconditions refuse it (R7). -/
theorem Command.check_code {s : State} {c : Command} {code : Byte} (h : c.check s = some code) : code ≠ codeRunt := by
  unfold Command.check at h
  simp only [] at h
  repeat' split at h
  all_goals cases h <;> decide

/-- A reading of a command's bytes refuses them with no code of a runt. -/
def Parsed.RefusesFrame (x : Parsed) : Prop := ∀ code, x = .refused code → code ≠ codeRunt

theorem noArgs_refuses (args : List Byte) (c : Command) : (noArgs args c).RefusesFrame := by
  unfold noArgs; split <;> rintro _ ⟨⟩; decide

theorem argsOr_refuses (c : Option Command) : (argsOr c).RefusesFrame := by
  cases c <;> rintro _ ⟨⟩; decide

theorem portArg_refuses (args : List Byte) (c : Fin 8 → Command) : (portArg args c).RefusesFrame := by
  unfold portArg
  split
  · exact argsOr_refuses _
  · rintro _ ⟨⟩; decide

/-- The codes with which a command's bytes are refused (R7). -/
theorem parseCommand_refuses (code : Byte) (args : List Byte) : (parseCommand code args).RefusesFrame := by
  unfold parseCommand
  split
  case h_28 => rintro _ ⟨⟩; decide
  all_goals first
    | exact noArgs_refuses _ _
    | exact argsOr_refuses _
    | exact portArg_refuses _ _

theorem State.judgeConfirm_rejects (s : State) (code : Byte) (args : List Byte) : (s.judgeConfirm code args).RejectsFrame 3 := by
  unfold State.judgeConfirm
  split
  · exact Judgement.rejectsFrame_reject (by decide) (fun _ => rfl)
  · split
    · split
      · exact Judgement.rejectsFrame_reject (parseCommand_refuses _ _ _ ‹_›) (fun _ => rfl)
      · split
        · exact Judgement.rejectsFrame_reject (Command.check_code ‹_›) (fun _ => rfl)
        · exact Judgement.rejectsFrame_accept _ _
    · exact Judgement.rejectsFrame_reject (by decide) (fun _ => rfl)

theorem State.judgeIssue_rejects (s : State) (code : Byte) (args : List Byte) : (s.judgeIssue code args).RejectsFrame 3 := by
  unfold State.judgeIssue
  split
  · exact rejectsFrame_rejectWith (parseCommand_refuses _ _ _ ‹_›)
  · exact s.judgeConfirm_rejects _ _
  · exact rejectsFrame_acceptUnlessCode (fun _ h => Command.check_code h)

theorem judgeFetch_rejects (kind : Nat) (selector : Byte) : (judgeFetch selector).RejectsFrame kind := by
  unfold judgeFetch
  split
  · split
    · exact Judgement.rejectsFrame_accept _ _
    · exact rejectsFrame_rejectWith (by decide)
  · exact rejectsFrame_rejectWith (by decide)

theorem State.judgePostFrame_rejects (s : State) (kind : Nat) (selector tag op : Byte) (index : Word) (subindex : Byte)
    (data : List Byte) : (s.judgePostFrame selector tag op index subindex data).RejectsFrame kind := by
  unfold State.judgePostFrame
  split
  · exact rejectsFrame_rejectWith (by decide)
  · split
    · exact rejectsFrame_rejectWith (by decide)
    · exact rejectsFrame_acceptUnlessCode (fun _ h => State.judgePost_code h)

theorem State.judgePayload_rejects (s : State) (kind : Nat) (payload : List Byte) :
    (s.judgePayload kind payload).RejectsFrame kind := by
  unfold State.judgePayload
  split
  · exact rejectsFrame_acceptUnless (fun _ h => State.judgeWrite_code h)
  · exact rejectsFrame_acceptUnless (fun _ h => judgeRead_code h)
  · exact s.judgeIssue_rejects _ _
  · exact judgeFetch_rejects _ _
  · exact s.judgePostFrame_rejects _ _ _ _ _ _ _
  · exact rejectsFrame_rejectWith (by decide)

/-- No acceptance check rejects with the code of a runt, and only an ISSUE uses up the pending confirmation (R12, R22). -/
theorem State.judge_rejects (s : State) (f : Frame) : (s.judge f).RejectsFrame f.kind.toNat := by
  unfold State.judge
  repeat' split
  · exact rejectsFrame_rejectWith (by decide)
  · exact rejectsFrame_rejectWith (by decide)
  · exact rejectsFrame_rejectWith (by decide)
  · exact rejectsFrame_rejectWith (by decide)
  · exact s.judgePayload_rejects _ _

/-! ### The status of an accepted frame (R12) -/

/-- An accepted frame is answered with a status code below 0x81 (R12). -/
theorem Action.perform_status (a : Action) (tag : Byte) (s : State) : (a.perform tag s).status.toNat < 0x81 := by
  have run (c : Command) : (c.run s).status.toNat < 0x81 := by
    cases c
    case releaseAttention =>
      show s.releaseAttention.status.toNat < 0x81
      unfold State.releaseAttention
      split
      · exact (by decide : stNothingReleased.toNat < 0x81)
      · exact (by decide : stAccepted.toNat < 0x81)
    all_goals exact (by decide : stAccepted.toNat < 0x81)
  cases a with
  | write | read => exact (by decide : stAccepted.toNat < 0x81)
  | pend => exact (by decide : stAwaiting.toNat < 0x81)
  | run c | execute c => exact run c
  | fetch stream =>
    show (s.fetch stream).status.toNat < 0x81
    rcases (s.fetch_status stream).1 with h | h <;> rw [h] <;> decide
  | post =>
    show (s.post _ _ _ _ _ _).status.toNat < 0x81
    unfold State.post; split <;> exact (by decide : stAccepted.toNat < 0x81)

/-! ### What a reject leaves (R19, R20) -/

/-- A reject counted, captured, journalled and marked (R20). -/
theorem State.reject_eq (s : State) (why : Refused) (kind : BitVec 3) (tag : Byte) :
    s.reject why kind tag =
      { s with
        link :=
          { s.link with
            rejects := bump16 s.link.rejects
            runts := if why.code = codeRunt then bump16 s.link.runts else s.link.runts
            capture := s.link.capture.take kind why.code tag why.address (s.timeBase.extractLsb' 0 16) }
        journal := s.journal.put s.cfg.journalConfig s.timeBase (evLinkReject why.code kind tag)
        attn := s.attn.mark .link (fun l => l.addCode why.code) } := rfl

/-- A refused frame leaves every block but the link, the journal and the attention controller (R20). -/
theorem State.refuse_frame (s : State) (f : Frame) (why : Refused) (usesUp : Bool) :
    { s.refuse f why usesUp with link := s.link, journal := s.journal, attn := s.attn } = s := by
  cases usesUp <;> simp [State.refuse, State.reject_eq, State.setPhase, State.dropConfirm]

/-- The link after a refused frame (R17, R19, R20, R22). -/
theorem State.refuse_link (s : State) (f : Frame) (why : Refused) (usesUp : Bool) :
    (s.refuse f why usesUp).link =
      { s.link with
        rejects := bump16 s.link.rejects
        runts := if why.code = codeRunt then bump16 s.link.runts else s.link.runts
        capture := s.link.capture.take f.kind why.code f.tag why.address (s.timeBase.extractLsb' 0 16)
        confirm := if usesUp then none else s.link.confirm
        phase := .replying ⟨why.code, f.tag, []⟩ false .nothing } := by
  cases usesUp <;> rfl

/-- A completed request in STARTUP (R11). -/
theorem State.frame_startup {s : State} (f : Frame) (h : s.mode = .startup) :
    s.frame f = s.dropFrame.setPhase (.replying ⟨stStarting, f.tag, []⟩ false .nothing) := if_pos h

/-- A completed request outside STARTUP (R10). -/
theorem State.frame_judged {s : State} (f : Frame) (h : s.mode ≠ .startup) :
    s.frame f =
      match s.dropFrame.judge f with
      | .accept a => s.dropFrame.accept f a
      | .reject why usesUp => s.dropFrame.refuse f why usesUp := if_neg h

/-- A frame answered with a status code from 0x81 upward was refused by a check (R12). -/
theorem State.frame_of_status {s : State} {f : Frame} {r : Reply} {recorded : Bool} {d : Delivery}
    (hp : (s.frame f).link.phase = .replying r recorded d) (hr : 0x81 ≤ r.status.toNat) :
    ∃ why usesUp, s.dropFrame.judge f = .reject why usesUp ∧ s.frame f = s.dropFrame.refuse f why usesUp := by
  by_cases hm : s.mode = .startup
  · rw [State.frame_startup f hm] at hp
    cases hp
    exact absurd hr (by decide : ¬0x81 ≤ stStarting.toNat)
  · rw [State.frame_judged f hm] at hp ⊢
    cases hj : s.dropFrame.judge f with
    | reject why usesUp => exact ⟨why, usesUp, rfl, rfl⟩
    | accept a =>
      rw [hj] at hp
      cases hp
      exact absurd hr (Nat.not_le.2 (a.perform_status f.tag (a.endConfirm s.dropFrame)))

/-- Settles O5: such a frame was refused, and a refusal changes the link as `refuse_link` says. -/
theorem rejectsTouchOnlyTheLink : Obligations.RejectsTouchOnlyTheLink := by
  intro s t mosi f r recorded d hawake hf he hp hr
  rw [exec_reject_completed hawake hf] at he
  cases he
  rw [State.finish_link] at hp ⊢
  obtain ⟨why, usesUp, hj, hframe⟩ := State.frame_of_status hp hr
  obtain ⟨hcode, hkind⟩ := State.judge_rejects _ f why usesUp hj
  have hrest : { (s.frame f).finish with link := s.link, journal := s.journal, attn := s.attn, atn := s.atn } = s := by
    have hc : { (s.frame f).finish with link := s.link, journal := s.journal, attn := s.attn, atn := s.atn } =
        { s.frame f with link := s.link, journal := s.journal, attn := s.attn, atn := s.atn } :=
      congrArg (fun u : State => { u with link := s.link, journal := s.journal, attn := s.attn, atn := s.atn })
        (s.frame f).finish_frame
    rw [hc, hframe]
    exact congrArg (fun u : State => { u with link := s.link, attn := s.attn, atn := s.atn })
      (s.dropFrame.refuse_frame f why usesUp)
  rw [hframe] at hp
  refine ⟨hrest, ?_⟩
  rw [hframe]
  rw [State.refuse_link] at hp ⊢
  cases hp
  refine ⟨ rfl, if_neg hcode, rfl, rfl, rfl, rfl, rfl, rfl, rfl, ?_⟩
  cases usesUp with
  | false => exact .inl rfl
  | true => exact .inr ⟨BitVec.eq_of_toNat_eq (hkind rfl), rfl⟩

/-! ### Runts and STARTUP (R11, R15, R16) -/

/-- Bytes that complete no request, up to the release of CS (R15). -/
theorem State.bytes_incomplete {s : State} {mosi : List Byte} (h : completedRequest mosi = none) (hne : mosi ≠ []) :
    s.bytes mosi = s.runt mosi .idle := by
  unfold State.bytes
  rw [h]
  exact if_neg (by simpa using hne)

/-- Bytes that complete no request, up to a stall (R16). -/
theorem State.stall_incomplete {s : State} {mosi : List Byte} (h : completedRequest mosi = none) :
    s.stall mosi = s.runt mosi .ignoring := by
  unfold State.stall; rw [h]

/-- A runt in STARTUP only ends the frame (R11). -/
theorem State.runt_startup {s : State} (mosi : List Byte) (phase : FramePhase) (h : s.mode = .startup) :
    s.runt mosi phase = s.dropFrame.setPhase phase := if_pos h

/-- A runt outside STARTUP ends the frame before and is counted, captured, journalled and marked (R15, R19). -/
theorem State.runt_counted {s : State} (mosi : List Byte) (phase : FramePhase) (h : s.mode ≠ .startup) :
    s.runt mosi phase =
      { s with
        link :=
          { s.link with
            phase := phase
            rejects := bump16 s.link.rejects
            runts := bump16 s.link.runts
            capture := s.link.capture.take (runtKind mosi) codeRunt (runtTag mosi) 0#16 (s.timeBase.extractLsb' 0 16) }
        journal := s.journal.put s.cfg.journalConfig s.timeBase (evLinkReject codeRunt (runtKind mosi) (runtTag mosi))
        attn := ({ s.attn with claim := none }).mark .link (fun l => l.addCode codeRunt) } := by
  refine (if_neg h).trans ((State.reject_eq _ _ _ _).trans ?_)
  simp only [reduceIte]
  rfl

/-- Settles O6: both rows are runts of the same bytes, and differ in what the decoder does next. -/
theorem runtsAreCountedAndCaptured : Obligations.RuntsAreCountedAndCaptured := by
  rintro s mosi ⟨hr, hm⟩ hc
  refine ⟨fun hne => ?_, ?_⟩
  · rw [exec_runt, takeEvent_awake hr, State.bytes_incomplete hc hne, State.runt_counted mosi .idle hm]; rfl
  · rw [exec_requestPhaseTimeout, takeEvent_awake hr, State.stall_incomplete hc, State.runt_counted mosi .ignoring hm]; rfl

/-- Settles O7: in STARTUP a frame and a runt only end the frame before. -/
theorem startupAnswersStarting : Obligations.StartupAnswersStarting := by
  intro s mosi hr hm
  refine ⟨fun f hf => ?_, fun hc hne => ⟨?_, ?_⟩, fun hc => ?_⟩
  · rw [exec_startingFrame, takeEvent_awake hr]
    unfold State.bytes
    rw [hf]
    exact congrArg (fun u : State => Host.Outcome.next u.finish) (State.frame_startup f hm)
  · rw [exec_startingFrame, takeEvent_awake hr, State.bytes_incomplete hc hne, State.runt_startup mosi _ hm]; rfl
  · rw [exec_runt, takeEvent_awake hr, State.bytes_incomplete hc hne, State.runt_startup mosi _ hm]; rfl
  · rw [exec_requestPhaseTimeout, takeEvent_awake hr, State.stall_incomplete hc, State.runt_startup mosi _ hm]; rfl

/-! ### Frame ends (R14, R17) -/

/-- What each of the four ends of a frame does outside a reset interval. -/
theorem exec_frameEnds {s : State} (hr : s.resetLine = none) :
    exec .replyCut s = .next s.cutReply.finish ∧ exec .fetchPortCommit s = .next s.commitSlot.finish ∧
      exec .fetchJournalCommit s = .next s.commitEntry.finish ∧ exec .claimCommit s = .next s.commitClaim.finish :=
  ⟨takeEvent_awake hr, takeEvent_awake hr, takeEvent_awake hr, takeEvent_awake hr⟩

/-- Settles O8: each end by the phase of the decoder and by what was delivered. -/
theorem frameEndsCommitOnlyTheirOwn : Obligations.FrameEndsCommitOnlyTheirOwn := by
  intro s r recorded d hr
  obtain ⟨hcut, hslot, hentry, hclaim⟩ := exec_frameEnds hr
  refine ⟨fun hp => ⟨?_, fun hd => ?_, fun hd hn => ?_, fun hd hn => ?_, fun hd hn => ?_⟩, ?_⟩
  · rw [hcut, State.cutReply, hp]; cases recorded <;> rfl
  · subst hd
    simp only [List.forall_mem_cons, List.not_mem_nil, false_implies, implies_true, and_true, hslot, hentry, hclaim,
      State.commitSlot, State.commitEntry, State.commitClaim, hp]
    exact ⟨rfl, rfl, rfl⟩
  · rw [hslot, State.commitSlot, hp]
    cases d with
    | slot p n => exact absurd rfl (hd p n)
    | nothing => exact absurd rfl hn
    | entry | claim => rfl
  · rw [hentry, State.commitEntry, hp]
    cases d with
    | entry seq => exact absurd rfl (hd seq)
    | nothing => exact absurd rfl hn
    | slot | claim => rfl
  · rw [hclaim, State.commitClaim, hp]
    cases d with
    | claim => exact absurd rfl hd
    | nothing => exact absurd rfl hn
    | slot | entry => rfl
  · simp only [List.forall_mem_cons, List.not_mem_nil, false_implies, implies_true, and_true, hcut, hslot, hentry, hclaim]
    refine ⟨⟨fun h => ?_, fun h => ?_⟩, ⟨fun h => ?_, fun h => ?_⟩, ⟨fun h => ?_, fun h => ?_⟩, fun h => ?_, fun h => ?_⟩
    · rw [State.cutReply, h]
    · rw [State.cutReply, h]; rfl
    · rw [State.commitSlot, h]
    · rw [State.commitSlot, h]; rfl
    · rw [State.commitEntry, h]
    · rw [State.commitEntry, h]; rfl
    · rw [State.commitClaim, h]
    · rw [State.commitClaim, h]; rfl

end Sys2Proof.Machine

/-! POST (O41). -/

namespace Sys2Proof.Machine

/-- The frame before over and a confirmation lapsed: no port changes. -/
theorem State.begun_frame (s : State) : { s.begun with link := s.link, journal := s.journal, attn := s.attn } = s := by
  unfold State.begun State.lapse
  split <;> rfl

@[simp] theorem State.begun_mode (s : State) : s.begun.mode = s.mode := (congrArg State.mode s.begun_frame :)
@[simp] theorem State.begun_cfg (s : State) : s.begun.cfg = s.cfg := (congrArg State.cfg s.begun_frame :)
@[simp] theorem State.begun_ports (s : State) : s.begun.ports = s.ports := (congrArg State.ports s.begun_frame :)
@[simp] theorem State.begun_sup (s : State) : s.begun.sup = s.sup := (congrArg State.sup s.begun_frame :)
@[simp] theorem State.begun_pins (s : State) : s.begun.pins = s.pins := (congrArg State.pins s.begun_frame :)

/-- An op of a POST with its data, legal at step 8 (R9). -/
abbrev PostLegal (op : Byte) (data : List Byte) : Prop := (op = 1#8 ∧ data = []) ∨ (op = 2#8 ∧ data ≠ [])

theorem postOp_illegal {op : Byte} {data : List Byte} (h : ¬PostLegal op data) : postOp op data = none := by
  unfold postOp
  rw [if_neg (fun hc => h (.inl (by simpa using hc))), if_neg (fun hc => h (.inr (by simpa using hc)))]

theorem postOp_legal {op : Byte} {data : List Byte} (h : PostLegal op data) :
    postOp op data = some (if op = 1#8 then .readParam else .writeParam) := by
  rcases h with ⟨rfl, rfl⟩ | ⟨rfl, hd⟩
  · rfl
  · cases data with
    | nil => exact absurd rfl hd
    | cons d ds => rfl

/-- The slots not held, lowest number first (R124). -/
theorem State.mem_freeSlots (s : State) (n : Fin 32) : n ∈ s.freeSlots ↔ n ∉ s.heldSlots := by
  simp [State.freeSlots, allSlots]

theorem State.freeSlots_isEmpty (s : State) : s.freeSlots.isEmpty = true ↔ ∀ n, n ∈ s.heldSlots := by
  rw [List.isEmpty_iff, List.eq_nil_iff_forall_not_mem]
  simp only [State.mem_freeSlots, Classical.not_not]

/-- The lowest slot not held comes first (R124, R129). -/
theorem State.freeSlots_eq_cons {s : State} {n : Fin 32} (hn : n ∉ s.heldSlots) (hlow : ∀ m < n, m ∈ s.heldSlots) :
    ∃ rest, s.freeSlots = n :: rest := by
  have hsorted : s.freeSlots.Pairwise (· < ·) := (List.pairwise_lt_finRange 32).filter _
  have hmem := (s.mem_freeSlots n).2 hn
  cases hl : s.freeSlots with
  | nil => rw [hl] at hmem; exact absurd hmem List.not_mem_nil
  | cons m rest =>
    rw [hl] at hsorted hmem
    have hm : m ∉ s.heldSlots := (s.mem_freeSlots m).1 (hl ▸ List.mem_cons_self)
    rcases List.mem_cons.1 hmem with rfl | hrest
    · exact ⟨rest, rfl⟩
    · exact absurd (hlow m (List.rel_of_pairwise_cons hsorted hrest)) hm

/-- The checks of a POST at steps 9, 12 and 13 in order (R128, R129). -/
theorem State.judgePost_eq (s : State) (p : Fin 8) :
    s.judgePost p =
      if s.mode = .operate ∧ (s.conf p).signalMode = 5 ∧ ((s.engine p).state = .waking ∨ (s.engine p).state = .bound ∨
          (s.engine p).state = .paused ∨ (s.engine p).state = .lost) then
        if field (s.conf p).quota 0 4 ≤ (s.port p).heldCount then some rejQuota
        else if ∀ n, n ∈ s.heldSlots then some rejPool
        else none
      else some rejState := by
  unfold State.judgePost
  simp only [State.freeSlots_isEmpty, State.quota, PortConfig.tether, Bool.and_eq_true, Bool.or_eq_true, beq_iff_eq,
    Bool.not_eq_true', ← Bool.not_eq_true, and_assoc, or_assoc, ite_not]

/-- A POST to a port whose op and data are not legal (R9). -/
theorem State.judgePostFrame_illegal (s : State) (p : Fin 8) (tag : Byte) {op : Byte} (index : Word) (subindex : Byte)
    {data : List Byte} (h : ¬PostLegal op data) :
    s.judgePostFrame (selectorOf (BitVec.ofNat 4 p.val)) tag op index subindex data = rejectWith rejArgument := by
  have hp : (BitVec.ofNat 4 p.val).toNat = p.val := by rw [BitVec.toNat_ofNat]; omega
  unfold State.judgePostFrame
  simp only [selectorStream_selectorOf, hp, Option.bind_some, portOf_val, postOp_illegal h]

/-- A POST to a port whose op and data are legal is judged by the port (R128, R129). -/
theorem State.judgePostFrame_legal (s : State) (p : Fin 8) (tag : Byte) {op : Byte} (index : Word) (subindex : Byte)
    {data : List Byte} (h : PostLegal op data) :
    s.judgePostFrame (selectorOf (BitVec.ofNat 4 p.val)) tag op index subindex data =
      acceptUnlessCode (s.judgePost p) (.post p tag (if op = 1#8 then .readParam else .writeParam) index subindex data) := by
  have hp : (BitVec.ofNat 4 p.val).toNat = p.val := by rw [BitVec.toNat_ofNat]; omega
  unfold State.judgePostFrame
  simp only [selectorStream_selectorOf, hp, Option.bind_some, portOf_val, postOp_legal h]

/-- The payload of a POST read back (section 1.2). -/
theorem State.judgePayload_post (s : State) (selector tag op : Byte) (index : Word) (subindex : Byte) (data : List Byte) :
    s.judgePayload kindPost.toNat ([selector, tag, op] ++ wordBytes index ++ [subindex] ++ data) =
      s.judgePostFrame selector tag op index subindex data := by
  show s.judgePostFrame selector tag op (wordOf (hiByte index) (loByte index)) subindex data = _
  rw [wordOf_bytes]

/-- A POST that finds a FREE slot (R129). -/
theorem State.post_eq {s : State} {n : Fin 32} {rest : List (Fin 32)} (p : Fin 8) (tag : Byte) (op : Op) (index : Word)
    (subindex : Byte) (data : List Byte) (h : s.freeSlots = n :: rest) :
    s.post p tag op index subindex data = accepted (s.enqueue p ⟨n, .host, tag, op, index, subindex, data⟩) [byteOf n.val] := by
  unfold State.post; rw [h]

/-- A POST sent without error and refused. -/
theorem post_refused {s : State} {f : FrameHead} {p : Fin 8} {tag op : Byte} {index : Word} {subindex : Byte} {data : List Byte}
    {code : Byte} (hn : data.length ≤ 24)
    (h : Sent s f kindPost ([selectorOf (BitVec.ofNat 4 p.val), tag, op] ++ wordBytes index ++ [subindex] ++ data))
    (hj : s.dropFrame.judgePostFrame (selectorOf (BitVec.ofNat 4 p.val)) tag op index subindex data = rejectWith code) :
    exec (.post f (selectorOf (BitVec.ofNat 4 p.val)) tag op index subindex data) s =
      .next (s.rejected kindPost f.tag code 0#16).finish := by
  rw [exec_post, takeFrame_refuse kindPost_legal (post_length hn) h ((State.judgePayload_post ..).trans hj)]

/-- Settles O41: the op and data decide first, then the checks of `judgePost_eq`, and then the lowest slot is taken. -/
theorem postTakesTheLowestFreeSlot : Obligations.PostTakesTheLowestFreeSlot := by
  intro s f p tag op index subindex data hn selector h outcome refused legal e ready full dry
  have hpost : s.dropFrame.judgePost p = if ready then if full then some rejQuota else if dry then some rejPool else none
      else some rejState := s.dropFrame.judgePost_eq p
  have hframe (hl : legal) := s.dropFrame.judgePostFrame_legal p tag index subindex hl
  rw [hpost] at hframe
  refine ⟨fun hl => ?_, fun hl hr => ?_, fun hl hr hf => ?_, fun hl hr hf hd => ?_, fun hl hr hf n hfree hlow => ?_⟩
  · exact post_refused hn h (s.dropFrame.judgePostFrame_illegal p tag index subindex hl)
  · exact post_refused hn h (by rw [hframe hl, if_neg hr]; rfl)
  · exact post_refused hn h (by rw [hframe hl, if_pos hr, if_pos hf]; rfl)
  · exact post_refused hn h (by rw [hframe hl, if_pos hr, if_neg hf, if_pos hd]; rfl)
  · have hj := hframe hl
    have hdry : ¬dry := fun hd => hfree (hd n)
    rw [if_pos hr, if_neg hf, if_neg hdry] at hj
    obtain ⟨rest, hslots⟩ := State.freeSlots_eq_cons (s := s.begun) (n := n) (by rwa [State.heldSlots, State.begun_ports])
      (by rwa [State.heldSlots, State.begun_ports])
    exact takeFrame_answered kindPost_legal (post_length hn) h ((State.judgePayload_post ..).trans hj)
      (State.post_eq p tag _ index subindex data hslots) rfl

end Sys2Proof.Machine

/-! The device reset step (O54). -/

namespace Sys2Proof.Machine

/-! ### The parts of the reset step (R185) -/

/-- A commit abandoned by a device reset: the store is IDLE, and only its left-over bytes and the free values differ otherwise
(R181). -/
theorem State.abandonCommit_frame (s : State) :
    { s.abandonCommit with store := s.store, free := s.free } = s ∧ s.abandonCommit.store.commit = .idle ∧
      s.abandonCommit.store.lastResult = 0#3 ∧ s.abandonCommit.store.current = s.store.current := by
  unfold State.abandonCommit
  split
  · rename_i job _; cases job.target <;> exact ⟨rfl, rfl, rfl, rfl⟩
  · rename_i job _; cases job.target <;> exact ⟨rfl, rfl, rfl, rfl⟩
  · exact ⟨rfl, rfl, rfl, rfl⟩

/-- With empty latches no source is deliverable (R155, R164). -/
theorem State.anyDeliverable_of_reset {s : State} (h : s.attn = Attention.reset) : s.anyDeliverable = false := by
  have hp (src : Source) : s.isPending src = false := by
    unfold State.isPending
    rw [h]
    cases src with
    | port p => simp [Attention.latch, Attention.reset, Latch.nonempty]
    | link | journal | keepalive | supply | thermal | store | mode => rfl
  simp [State.anyDeliverable, State.deliverable, hp]

/-- DEVICE_CONDITION after a reset step (R47, R83). -/
theorem resetCondition_eq (high hot : Bool) :
    resetCondition (!high) hot = 0x0010#16 ||| (if high then 0#16 else 1#16) ||| (if hot then 2#16 else 0#16) := by
  revert high hot; decide

/-- The factory JOURNAL_CONFIG admits the DEVICE class and overwrites the oldest entry (R139, R142). -/
theorem Journal.put_factory (j : Journal) (time : BitVec 32) (e : Event) (h : e.cls = .device) (he : e.edge = false) :
    j.put factoryJournalConfig time e =
      if journalCapacity ≤ j.entries.length then
        { j with
          entries := j.entries.drop 1 ++ [j.entryOf time e]
          nextSeq := j.nextSeq + 1#16
          refusals := 0#8
          lost := bump16 j.lost }
      else
        { j with
          entries := j.entries ++ [j.entryOf time e]
          nextSeq := j.nextSeq + 1#16
          refusals := 0#8
          call :=
            if j.call = some .refusal then j.call
            else if j.entries.length + 1 = threshold factoryJournalConfig then some .threshold else j.call } := by
  have hadm : admitted factoryJournalConfig e = true := by
    unfold admitted; rw [h, he]; decide
  have hpol : haltPolicy factoryJournalConfig = false := by decide
  have hj : j.judge factoryJournalConfig e = .recorded j.nextSeq := by
    unfold Journal.judge; simp [hadm, hpol]
  unfold Journal.put
  rw [hj]

/-- The journal of a device reset step: what it keeps, and the entry of the reset (R151, item 13 of R185). -/
def State.journalOfReset (s : State) (cause : ResetCause) : Journal :=
  { (s.journal.afterReset cause).put factoryJournalConfig (if cause = ResetCause.soft then s.timeBase else 0#32)
      (resetEvent cause s.mode) with call := none }

/-- The device reset step, block by block (R185). -/
theorem State.deviceReset_eq (s : State) (cause : ResetCause) (sample : Sample) (phase : FramePhase) :
    s.deviceReset cause sample phase =
      { mode := .startup
        safeCause := .none
        deviceCondition := resetCondition (!sample.vfieldHigh) sample.dieAbove140
        resetCause := resetCauseCode cause
        resetLine := none
        cfg := Settings.factory
        link := { Link.reset sample.straps with phase := phase }
        ports := Eight.all Port.reset
        sup := ⟨if sample.vfieldHigh then .good else .low, sample.dieAbove140, 0#8⟩
        journal := s.journalOfReset cause
        timeBase := if cause = ResetCause.soft then s.timeBase else 0#32
        attn := Attention.reset
        atn := false
        ka := Keepalive.reset
        store := { s.abandonCommit.store with revision := 0#16 }
        pins := { s.pins with vfieldHigh := sample.vfieldHigh }
        free := s.abandonCommit.free
        pending := s.pending } := by
  obtain ⟨hframe, -, -, -⟩ := s.abandonCommit_frame
  have hj : s.abandonCommit.journal = s.journal := (congrArg State.journal hframe :)
  have ht : s.abandonCommit.timeBase = s.timeBase := (congrArg State.timeBase hframe :)
  have hpins : s.abandonCommit.pins = s.pins := (congrArg State.pins hframe :)
  have hpending : s.abandonCommit.pending = s.pending := (congrArg State.pending hframe :)
  unfold State.deviceReset State.journalOfReset
  rw [← hj, ← ht, ← hpins, ← hpending]
  rfl

/-- What a device reset step leaves in every block but the journal and the Time Base (R24, R83, R123, R164, R174, R185). -/
abbrev State.Blank (s t : State) (straps : BitVec 3) (high hot : Bool) : Prop :=
  t.mode = .startup ∧ t.safeCause = .none ∧
  t.deviceCondition = 0x0010#16 ||| (if high then 0#16 else 1#16) ||| (if hot then 2#16 else 0#16) ∧
  t.resetLine = none ∧ t.cfg = Settings.factory ∧ t.ports = Eight.all Port.reset ∧
  t.sup = ⟨if high then .good else .low, hot, 0#8⟩ ∧ t.attn = Attention.reset ∧ t.atn = false ∧
  t.ka = ⟨.disarmed, 0#3, 0⟩ ∧ t.store.commit = .idle ∧ t.store.lastResult = 0#3 ∧
  t.store.current = s.store.current ∧ t.link.unit = straps ∧ t.link.rejects = 0#16 ∧ t.link.runts = 0#16 ∧
  t.link.confirm = none ∧ t.link.capture = ⟨false, false, 0#3, 0#8, 0#8, 0#16, 0#16⟩ ∧ t.link.lastTag = 0#8 ∧
  t.link.lastKind = 0#3 ∧ t.link.replyCut = false ∧ t.pending = s.pending

/-- The device reset step with the close of its step sets every block. -/
theorem State.deviceReset_blank (s : State) (cause : ResetCause) (sample : Sample) (phase : FramePhase) :
    s.Blank (s.deviceReset cause sample phase).finish sample.straps sample.vfieldHigh sample.dieAbove140 := by
  obtain ⟨-, hcommit, hresult, hcurrent⟩ := s.abandonCommit_frame
  rw [State.deviceReset_eq]
  refine ⟨State.finish_mode _, State.finish_safeCause _, ?_, State.finish_resetLine _, State.finish_cfg _, State.finish_ports _,
    State.finish_sup _, State.finish_attn_of_no_call rfl, ?_, State.finish_ka _, ?_⟩
  · rw [State.finish_deviceCondition, resetCondition_eq]
  · rw [State.finish_atn_of_no_call rfl, State.anyDeliverable_of_reset rfl]
  · rw [State.finish_store, State.finish_link, State.finish_pending]
    exact ⟨hcommit, hresult, hcurrent, rfl, rfl, rfl, rfl, rfl, rfl, rfl, rfl, rfl⟩

/-- The entry of a device reset is of the DEVICE class (item 13 of R185). -/
theorem resetEvent_class (cause : ResetCause) (mode : Mode) :
    (resetEvent cause mode).cls = .device ∧ (resetEvent cause mode).edge = false := by
  cases cause <;> exact ⟨rfl, rfl⟩

/-- The journal after a device reset step that ends an interval: POWER_UP alone (R151). -/
theorem State.journalOfReset_interval (s : State) (line : Option ResetLine) :
    s.journalOfReset (endingCause line) =
      ⟨[⟨0#16, 0#32, 9#8, 0x01#8, 0#8, [(resetCauseCode (endingCause line)).setWidth 8]⟩], 1#16, 0#8, 0#16, none⟩ := by
  obtain ⟨hcls, hedge⟩ := resetEvent_class (endingCause line) s.mode
  unfold State.journalOfReset
  rw [Journal.put_factory _ _ _ hcls hedge]
  match line with
  | some .pin => rfl
  | some .power => rfl
  | none => rfl

/-- The journal after a soft reset: its entries with that of the reset, the oldest one gone if it was full (R142, R151). -/
theorem State.journalOfReset_soft (s : State) :
    let entry : Entry := ⟨s.journal.nextSeq, s.timeBase, 9#8, 0x02#8, s.journal.refusals, [byteOf (modeCode s.mode)]⟩
    s.journalOfReset .soft =
      if journalCapacity ≤ s.journal.entries.length then
        ⟨s.journal.entries.drop 1 ++ [entry], s.journal.nextSeq + 1#16, 0#8, bump16 s.journal.lost, none⟩
      else ⟨s.journal.entries ++ [entry], s.journal.nextSeq + 1#16, 0#8, s.journal.lost, none⟩ := by
  unfold State.journalOfReset
  rw [Journal.put_factory _ _ _ rfl rfl]
  simp only [Journal.afterReset, if_true]
  split <;> rfl

/-- The state in which the CONFIRM of a SOFT_RESET takes its reset step: a free value is taken (notes/assumptions/5.md). -/
def State.begunSoftReset (s : State) : State := { s.begunConfirm with free := s.free + 1 }

/-- The CONFIRM of a pending SOFT_RESET is a device reset step in whose frame the reply goes out (R188). -/
theorem confirm_softReset {s : State} {f : FrameHead} {tag : Byte} (h : Issued s f 0x01#8 [0x38#8])
    (hc : s.link.confirm = some ⟨0x38#8, [], tag⟩) :
    exec (.confirm f [0x38#8]) s =
      .next (s.begunSoftReset.deviceReset .soft s.softSample (.replying ⟨stAccepted, f.tag, []⟩ false .nothing)).finish := by
  have hj := State.judgeConfirm_passes (s := s.dropFrame) hc rfl rfl
  obtain ⟨hq, -, -⟩ := requestOf_legal f kindIssue [0x01#8, 0x38#8] kindIssue_legal rfl
  rw [exec_confirm, issueFrame, takeFrame_accept kindIssue_legal rfl h hj, hq]
  rfl

/-- Settles O54, both parts by `deviceReset_blank`: the CONFIRM of a pending SOFT_RESET is a device reset step as well. -/
theorem deviceResetStepSetsEveryBlock : Obligations.DeviceResetStepSetsEveryBlock := by
  refine fun s => ⟨fun x => ⟨_, exec_deviceResetStep x s, s.deviceReset_blank _ x _, ?_⟩, ?_⟩
  · unfold State.endReset
    rw [State.deviceReset_eq, State.finish_timeBase, State.finish_resetCause, State.finish_link, State.finish_journal]
    simp only [State.journalOfReset_interval]
    match s.resetLine with
    | some .pin => exact ⟨rfl, rfl, rfl, rfl⟩
    | some .power => exact ⟨rfl, rfl, rfl, rfl⟩
    | none => exact ⟨rfl, rfl, rfl, rfl⟩
  · rintro f h ⟨tag, hc⟩
    refine ⟨_, s.softSample.straps, s.softSample.dieAbove140, confirm_softReset h hc, fun hhot => ?_,
      s.begunSoftReset.deviceReset_blank _ s.softSample _, ?_⟩
    · show (s.sup.hot || Config.dieAbove140 s.free) = true
      rw [hhot]; rfl
    · have hmode : byteOf (modeCode s.begunSoftReset.mode) =
          match s.mode with | .startup => 0#8 | .standby => 1#8 | .operate => 2#8 | .safeHold => 3#8 := by
        show byteOf (modeCode s.mode) = _
        cases s.mode <;> rfl
      rw [State.deviceReset_eq, State.finish_timeBase, State.finish_resetCause, State.finish_link, State.finish_journal]
      simp only [State.journalOfReset_soft, hmode]
      refine ⟨rfl, rfl, rfl, ?_⟩
      by_cases hfull : journalCapacity ≤ s.journal.entries.length
      · rw [if_pos (show journalCapacity ≤ s.begunSoftReset.journal.entries.length from hfull)]
        exact ⟨rfl, rfl, fun hroom => absurd hfull (Nat.not_le.2 hroom), fun _ => ⟨by rw [List.drop_one]; rfl, rfl⟩⟩
      · rw [if_neg (show ¬journalCapacity ≤ s.begunSoftReset.journal.entries.length from hfull)]
        exact ⟨rfl, rfl, fun _ => ⟨rfl, rfl⟩, fun h => absurd h hfull⟩

end Sys2Proof.Machine

/-! The refusals of a WRITE (O21). -/

namespace Sys2Proof.Machine

/-! ### The checks of a WRITE, entry by entry -/

theorem WriteEntry.unmapped_iff (e : WriteEntry) : WriteEntry.unmapped e = true ↔ regAt e.address.toNat = none := by
  simp [WriteEntry.unmapped]

theorem WriteEntry.readOnly_iff (e : WriteEntry) :
    WriteEntry.readOnly e = true ↔ ∃ r, regAt e.address.toNat = some r ∧ writable r = false := by
  simp [WriteEntry.readOnly, Option.any_eq_true]

theorem WriteEntry.outOfRange_iff (e : WriteEntry) :
    WriteEntry.outOfRange e = true ↔ ∃ r, regAt e.address.toNat = some r ∧ valueLegal r e.value = false := by
  simp [WriteEntry.outOfRange, Option.any_eq_true]

theorem WriteEntry.locked_iff (e : WriteEntry) :
    WriteEntry.locked e = true ↔ ∃ r, regAt e.address.toNat = some r ∧ modeLocked r = true := by
  simp [WriteEntry.locked, Option.any_eq_true]

theorem Engine.stateLocked_iff (e : Engine) :
    e.stateLocked = true ↔ e.state = .waking ∨ e.state = .bound ∨ e.state = .paused := by
  simp [Engine.stateLocked, or_assoc]

theorem stateLockedChange_iff (before after : PortConfig) :
    stateLockedChange before after = true ↔
      after.rate ≠ before.rate ∨ after.outputLen ≠ before.outputLen ∨ after.expectClass ≠ before.expectClass ∨
        after.expectIdHi ≠ before.expectIdHi ∨ after.expectIdLo ≠ before.expectIdLo := by
  simp only [stateLockedChange, Bool.or_eq_true, bne_iff_ne, or_assoc]
  rw [ne_comm, @ne_comm _ before.outputLen, @ne_comm _ before.expectClass, @ne_comm _ before.expectIdHi,
    @ne_comm _ before.expectIdLo]

theorem drivingMode_iff (m : Nat) : drivingMode m = true ↔ 2 ≤ m ∧ m ≤ 5 := by simp [drivingMode]

theorem modeJump_iff (before after : PortConfig) :
    modeJump before after = true ↔
      (2 ≤ before.signalMode ∧ before.signalMode ≤ 5) ∧ (2 ≤ after.signalMode ∧ after.signalMode ≤ 5) ∧
        after.signalMode ≠ before.signalMode := by
  simp only [modeJump, Bool.and_eq_true, bne_iff_ne, drivingMode_iff, and_assoc, ne_comm (a := before.signalMode)]

/-- The locks of a WRITE (R40, R41). -/
theorem State.writeLocked_iff (s : State) (entries : List WriteEntry) :
    s.writeLocked entries = true ↔
      (s.mode = .safeHold ∧ ∃ e ∈ entries, ∃ r, regAt e.address.toNat = some r ∧ modeLocked r = true) ∨
      (s.mode = .operate ∧ ∃ p, ((s.engine p).state = .waking ∨ (s.engine p).state = .bound ∨ (s.engine p).state = .paused) ∧
        stateLockedChange (s.conf p) ((s.cfg.apply entries).ports.get p) = true) := by
  simp only [State.writeLocked, Bool.or_eq_true, Bool.and_eq_true, beq_iff_eq, List.any_eq_true, WriteEntry.locked_iff,
    Engine.stateLocked_iff, mem_allPorts, true_and]

/-- The first entry that passes a test. -/
theorem find?_append_cons {α : Type} {f : α → Bool} {pre post : List α} {e : α} (hpre : ∀ x ∈ pre, ¬f x = true)
    (he : f e = true) : (pre ++ e :: post).find? f = some e := by
  rw [List.find?_append, List.find?_eq_none.2 hpre, List.find?_cons_of_pos he]
  rfl

/-! ### The order of the checks (steps 6 to 11 of R10) -/

section
variable {s : State} {entries : List WriteEntry}

theorem State.judgeWrite_unmapped {e : WriteEntry} (h : entries.find? WriteEntry.unmapped = some e) :
    s.judgeWrite entries = some ⟨rejAddress, e.address⟩ := by
  unfold State.judgeWrite; rw [h]

theorem State.judgeWrite_readOnly {e : WriteEntry} (hm : entries.find? WriteEntry.unmapped = none)
    (h : entries.find? WriteEntry.readOnly = some e) : s.judgeWrite entries = some ⟨rejAccess, e.address⟩ := by
  unfold State.judgeWrite; rw [hm, h]

/-- The checks after the addresses and the access types. -/
theorem State.judgeWrite_writable (hm : entries.find? WriteEntry.unmapped = none)
    (hw : entries.find? WriteEntry.readOnly = none) :
    s.judgeWrite entries =
      if entries.any WriteEntry.outOfRange then some ⟨rejArgument, 0#16⟩
      else if s.writeLocked entries then some ⟨rejState, 0#16⟩
      else if allPorts.any (fun p => modeJump (s.conf p) ((s.cfg.apply entries).ports.get p)) then
        some ⟨rejModeJump, 0#16⟩
      else none := by
  unfold State.judgeWrite; rw [hm, hw]

/-- A WRITE sent without error and refused. -/
theorem write_refused {f : FrameHead} {w : Refused} (h1 : 1 ≤ entries.length) (h8 : entries.length ≤ 8)
    (h : Sent s f kindWrite (entryBytes entries)) (hj : s.judgeWrite entries = some w) :
    exec (.write f entries) s = .next (s.rejected kindWrite f.tag w.code w.address).finish := by
  have hp : s.dropFrame.judgePayload kindWrite.toNat (entryBytes entries) = .reject w false := by
    show acceptUnless (s.judgeWrite (entriesOf (entryBytes entries))) _ = _
    rw [entriesOf_entryBytes, hj]; rfl
  rw [exec_write, takeFrame_refuse kindWrite_legal (write_length h1 h8) h hp]

end

/-- Settles O21: the checks of `judgeWrite` in their order. -/
theorem writeRefusalsInOrder : Obligations.WriteRefusalsInOrder := by
  intro s f entries h1 h8 h reg refused final mapped writable' inRange locked driving jumps
  have refuse {code : Byte} {address : Word} (hj : s.judgeWrite entries = some ⟨code, address⟩) : refused code address :=
    write_refused (w := ⟨code, address⟩) h1 h8 h hj
  have hmapped (hm : mapped) : entries.find? WriteEntry.unmapped = none :=
    List.find?_eq_none.2 (fun e he hu => hm e he ((WriteEntry.unmapped_iff e).1 hu))
  have hwritable (hw : writable') : entries.find? WriteEntry.readOnly = none :=
    List.find?_eq_none.2 (fun e he hu => by
      obtain ⟨r, hr, hf⟩ := (WriteEntry.readOnly_iff e).1 hu
      exact Bool.false_ne_true (hf.symm.trans (hw e he r hr)))
  have hrange : entries.any WriteEntry.outOfRange = true ↔ ¬inRange := by
    simp only [List.any_eq_true, WriteEntry.outOfRange_iff, inRange, reg, Classical.not_forall, Bool.not_eq_true,
      exists_prop]
  have hlocked : s.writeLocked entries = true ↔ locked := by
    rw [State.writeLocked_iff]
    simp only [stateLockedChange_iff]
    rfl
  have hjumps : allPorts.any (fun p => modeJump (s.conf p) ((s.cfg.apply entries).ports.get p)) = true ↔ jumps := by
    rw [allPorts_any]
    simp only [modeJump_iff]
    rfl
  refine ⟨?_, ?_, fun hm hw hr => ?_, fun hm hw hr hl => ?_, fun hm hw hr hl hj => ?_⟩
  · rintro pre e post rfl hpre he
    exact refuse (State.judgeWrite_unmapped (find?_append_cons (fun x hx hu => hpre x hx ((WriteEntry.unmapped_iff x).1 hu))
      ((WriteEntry.unmapped_iff e).2 he)))
  · rintro hm pre e post r hsplit hpre he hr
    refine refuse (State.judgeWrite_readOnly (hmapped hm) ?_)
    rw [hsplit]
    refine find?_append_cons (fun x hx hu => ?_) ((WriteEntry.readOnly_iff e).2 ⟨r, he, hr⟩)
    obtain ⟨q, hq, hf⟩ := (WriteEntry.readOnly_iff x).1 hu
    exact Bool.false_ne_true (hf.symm.trans (hpre x hx q hq))
  · exact refuse (by rw [State.judgeWrite_writable (hmapped hm) (hwritable hw), if_pos (hrange.2 hr)]; rfl)
  · exact refuse (by rw [State.judgeWrite_writable (hmapped hm) (hwritable hw), if_neg (fun h => hrange.1 h hr),
      if_pos (hlocked.2 hl)]; rfl)
  · exact refuse (by rw [State.judgeWrite_writable (hmapped hm) (hwritable hw), if_neg (fun h => hrange.1 h hr),
      if_neg (fun h => hl (hlocked.1 h)), if_pos (hjumps.2 hj)]; rfl)

end Sys2Proof.Machine

/-! Packed registers: a read-only register is its fields in bit order (section 12.6). -/

namespace Sys2Proof.Machine

/-! ### Fields laid side by side -/

/-- The fields of a register, from bit `k` up, are the bits of `x`. -/
def Packs {w : Nat} (k : Nat) (fields : List Field) (x : BitVec w) : Prop := pack fields = x.setWidth 16 <<< k

/-- A field joined to those after it. -/
theorem pack_cons (x : Field) (fields : List Field) :
    pack (x :: fields) = BitVec.ofNat 16 (x.value % 2 ^ x.width) <<< x.low ||| pack fields := by
  have step (l : List Field) (a : Word) :
      l.foldl (fun w x => w ||| (BitVec.ofNat 16 (x.value % 2 ^ x.width) <<< x.low)) a = a ||| pack l := by
    unfold pack
    induction l generalizing a with
    | nil => simp
    | cons y l ih => rw [List.foldl_cons, List.foldl_cons, ih, ih (0#16 ||| _), BitVec.zero_or, BitVec.or_assoc]
  unfold pack
  rw [List.foldl_cons, step, BitVec.zero_or]
  rfl

namespace Packs

variable {w k : Nat} {fields : List Field} {x : BitVec w}

/-- Above the last field the register reads 0. -/
theorem top (k n : Nat) : Packs k [] 0#n := by simp [Packs, pack]

/-- Bits of no field read 0. -/
theorem gap (n : Nat) (h : Packs (k + n) fields x) : Packs k fields (x ++ 0#n) := by
  unfold Packs at h ⊢
  rw [h]
  apply BitVec.eq_of_getLsbD_eq
  intro i hi
  simp only [BitVec.getLsbD_shiftLeft, BitVec.getLsbD_setWidth, BitVec.getLsbD_append, BitVec.getLsbD_zero]
  by_cases h1 : i < k
  · simp [h1, show i < k + n by omega]
  · by_cases h2 : i - k < n
    · simp [h2, show i < k + n by omega]
    · simp [h1, h2, show ¬i < k + n by omega, show i - (k + n) < 16 by omega, show i - k < 16 by omega, Nat.sub_sub]

/-- A field, and above it the others. -/
theorem field {n value : Nat} {v : BitVec n} (h : Packs (k + n) fields x) (hv : BitVec.ofNat n value = v) :
    Packs k (⟨value, k, n⟩ :: fields) (x ++ v) := by
  subst hv
  unfold Packs at h ⊢
  rw [pack_cons, h]
  apply BitVec.eq_of_getLsbD_eq
  intro i hi
  simp only [BitVec.getLsbD_or, BitVec.getLsbD_shiftLeft, BitVec.getLsbD_setWidth, BitVec.getLsbD_append, BitVec.getLsbD_ofNat,
    Nat.testBit_mod_two_pow]
  by_cases h1 : i < k
  · simp [h1, show i < k + n by omega]
  · by_cases h2 : i - k < n
    · simp [h1, h2, hi, show i < k + n by omega, show i - k < 16 by omega]
    · simp [h1, h2, show ¬i < k + n by omega, show i - (k + n) < 16 by omega, show i - k < 16 by omega, Nat.sub_sub]

/-- The last field alone. -/
theorem last {n value : Nat} {v : BitVec n} (hv : BitVec.ofNat n value = v) : Packs k [⟨value, k, n⟩] v := by
  have h := (Packs.top (k + n) 0).field (k := k) hv
  unfold Packs at h ⊢
  rw [h]
  apply BitVec.eq_of_getLsbD_eq
  intro i hi
  simp only [BitVec.getLsbD_shiftLeft, BitVec.getLsbD_setWidth, BitVec.getLsbD_append]
  by_cases h2 : i - k < n
  · simp [h2]
  · simp [h2, BitVec.getLsbD_of_ge v (i - k) (by omega)]

/-- A register whose fields fill it from bit 0 up. -/
theorem eq {x : Word} (h : Packs 0 fields x) : pack fields = x := by
  unfold Packs at h
  rw [h, BitVec.setWidth_eq, BitVec.shiftLeft_zero]

end Packs

/-- A field that holds the number of a bit vector. -/
theorem ofNat_toNat_self {n : Nat} (x : BitVec n) : BitVec.ofNat n x.toNat = x := by rw [BitVec.ofNat_toNat, BitVec.setWidth_eq]

/-- A field of one bit. -/
theorem ofNat_bitNat (b : Bool) : BitVec.ofNat 1 (bitNat b) = BitVec.ofBool b := by cases b <;> rfl

end Sys2Proof.Machine

/-! READ (O9): the range returned, the refusals, and the contents of the read-only registers. -/

namespace Sys2Proof.Machine

/-! ### The range of a READ (R6) -/

theorem readRange_eq_map (start count : Nat) : readRange start count = (List.range (min count 16)).map (fun i => start + i) := rfl

/-- A READ whose range is mapped is judged by its count (R6). -/
theorem judgeRead_mapped {start : Word} {count : Byte} (h : ∀ i < min count.toNat 16, regAt (start.toNat + i) ≠ none) :
    judgeRead start count = if 1 ≤ count.toNat ∧ count.toNat ≤ 16 then none else some ⟨rejArgument, 0#16⟩ := by
  have hf : (readRange start.toNat count.toNat).find? (fun a => (regAt a).isNone) = none := by
    rw [List.find?_eq_none, readRange_eq_map]
    intro a ha
    obtain ⟨i, hi, rfl⟩ := List.mem_map.1 ha
    simpa using h i (List.mem_range.1 hi)
  unfold judgeRead
  rw [hf]
  simp only [Bool.and_eq_true, decide_eq_true_eq]

/-- A READ names the lowest unmapped address of its range (R6). -/
theorem judgeRead_unmapped {start : Word} {count : Byte} {i : Nat} (hi : i < min count.toNat 16)
    (hn : regAt (start.toNat + i) = none) (hlow : ∀ j < i, regAt (start.toNat + j) ≠ none) :
    judgeRead start count = some ⟨rejAddress, start + BitVec.ofNat 16 i⟩ := by
  have hf : (readRange start.toNat count.toNat).find? (fun a => (regAt a).isNone) = some (start.toNat + i) := by
    rw [readRange_eq_map, List.find?_map, List.find?_range_eq_some.2 ⟨by simp [hn], List.mem_range.2 hi, fun j hj => ?_⟩]
    · rfl
    · simpa [Option.isSome_iff_ne_none] using hlow j hj
  unfold judgeRead
  rw [hf]
  show some (Refused.mk rejAddress (BitVec.ofNat 16 (start.toNat + i))) = _
  rw [BitVec.ofNat_add, ofNat_toNat_self]

/-- The payload of a READ read back (section 1.2). -/
theorem State.judgePayload_read (s : State) (start : Word) (count : Byte) :
    s.judgePayload kindRead.toNat (wordBytes start ++ [count]) = acceptUnless (judgeRead start count) (.read start count) := by
  show acceptUnless (judgeRead (wordOf (hiByte start) (loByte start)) count) (.read (wordOf (hiByte start) (loByte start)) count) = _
  rw [wordOf_bytes]

/-- The payload of an accepted READ (R6). -/
theorem State.readBytes_eq (s : State) (start : Word) {count : Byte} (h : count.toNat ≤ 16) :
    s.readBytes start count = (List.range count.toNat).flatMap (fun i => wordBytes (s.readAddress (start.toNat + i))) := by
  unfold State.readBytes
  rw [readRange_eq_map, Nat.min_eq_left h, List.flatMap_map]

/-- The first part of O9: what a READ sent without error is answered. -/
theorem exec_read_cases {s : State} {f : FrameHead} {start : Word} {count : Byte} (h : Sent s f kindRead (wordBytes start ++ [count])) :
    (1 ≤ count.toNat → count.toNat ≤ 16 → (∀ i < count.toNat, regAt (start.toNat + i) ≠ none) →
      exec (.read f start count) s =
        .next ((s.begun.answered f kindRead 0x00#8
          ((List.range count.toNat).flatMap (fun i => wordBytes (s.begun.readAddress (start.toNat + i)))) .nothing).finish)) ∧
    (∀ i < min count.toNat 16, ¬regAt (start.toNat + i) ≠ none → (∀ j < i, regAt (start.toNat + j) ≠ none) →
      exec (.read f start count) s = .next (s.rejected kindRead f.tag 0x86#8 (start + BitVec.ofNat 16 i)).finish) ∧
    ((count.toNat = 0 ∨ 16 < count.toNat) → (∀ i < min count.toNat 16, regAt (start.toNat + i) ≠ none) →
      exec (.read f start count) s = .next (s.rejected kindRead f.tag 0x89#8 0#16).finish) := by
  have hl : lengthLegal kindRead (wordBytes start ++ [count]).length = true := rfl
  have refused {w : Refused} (hj : judgeRead start count = some w) :
      exec (.read f start count) s = .next (s.rejected kindRead f.tag w.code w.address).finish := by
    have hp : s.dropFrame.judgePayload kindRead.toNat (wordBytes start ++ [count]) = .reject w false := by
      rw [State.judgePayload_read, hj]; rfl
    rw [exec_read, takeFrame_refuse kindRead_legal hl h hp]
  refine ⟨fun h1 h16 hm => ?_, fun i hi hn hlow => ?_, fun hc hm => ?_⟩
  · have hj := judgeRead_mapped (start := start) (count := count) (by rwa [Nat.min_eq_left h16])
    rw [if_pos ⟨h1, h16⟩] at hj
    have hp : s.dropFrame.judgePayload kindRead.toNat (wordBytes start ++ [count]) = .accept (.read start count) := by
      rw [State.judgePayload_read, hj]; rfl
    rw [exec_read, takeFrame_answered (d := accepted s.begun (s.begun.readBytes start count)) kindRead_legal hl h hp rfl rfl,
      State.readBytes_eq _ _ h16]
    rfl
  · rw [refused (judgeRead_unmapped hi (Classical.not_not.1 hn) hlow)]; rfl
  · have hj := judgeRead_mapped hm
    rw [if_neg (by omega)] at hj
    rw [refused hj]; rfl

/-! ### The registers (section 12.6) -/

/-- The register mapped at an address is what the address reads (R190). -/
theorem State.reads {s : State} {address : Nat} {r : Reg} {w : Word} (hr : regAt address = some r) (h : s.readReg r = w) :
    s.readAddress address = w := by
  unfold State.readAddress; rw [hr]; exact h

/-- The register at an offset of a port (R190). -/
theorem State.readAddress_port (s : State) (p : Fin 8) (offset : Fin 32) :
    s.readAddress (0x100 + 0x20 * p.val + offset.val) = s.readPortReg p offset := by
  have hr : regAt (0x100 + 0x20 * p.val + offset.val) = some (.port p offset) := by
    unfold regAt
    rw [dif_pos (by omega)]
    have hp : (0x100 + 0x20 * p.val + offset.val - 0x100) / 32 = p.val := by omega
    have ho : (0x100 + 0x20 * p.val + offset.val) % 32 = offset.val := by omega
    simp only [hp, ho]
  exact State.reads hr rfl

/-- What a port's register reads, at its address (R190). -/
theorem State.readsPort {s : State} {p : Fin 8} {n : Nat} {w : Word} (hn : n < 32) (h : s.readPortReg p ⟨n, hn⟩ = w) :
    s.readAddress (0x100 + 0x20 * p.val + n) = w := (s.readAddress_port p ⟨n, hn⟩).trans h

/-- The bits of a register made of named bits. -/
theorem bitsWhere_getLsbD (l : List (Nat × Bool)) (n : Nat) :
    (bitsWhere l).getLsbD n = true ↔ n < 16 ∧ ∃ x ∈ l, x.1 = n ∧ x.2 = true := by
  have step (a : Word) : (l.foldl (fun w x => if x.2 then setBit w x.1 else w) a).getLsbD n = true ↔
      a.getLsbD n = true ∨ n < 16 ∧ ∃ x ∈ l, x.1 = n ∧ x.2 = true := by
    induction l generalizing a with
    | nil => simp
    | cons y l ih =>
      rw [List.foldl_cons, ih]
      cases hy : y.2 with
      | false => simp [hy]
      | true =>
        have hbit : (setBit a y.1).getLsbD n = true ↔ a.getLsbD n = true ∨ n < 16 ∧ y.1 = n := by
          rw [setBit, ← BitVec.twoPow_eq, BitVec.getLsbD_or, BitVec.getLsbD_twoPow]
          simp only [Bool.or_eq_true, Bool.and_eq_true, decide_eq_true_eq]
          constructor <;> rintro (h | ⟨h, rfl⟩) <;> simp [h]
        simp only [if_true, hbit, List.mem_cons, or_and_right, exists_or, exists_eq_left, hy, and_true, and_or_left, or_assoc]
  unfold bitsWhere
  rw [step]
  simp

/-- Every source is among the fifteen. -/
theorem mem_allSources (src : Source) : src ∈ allSources := by
  cases src with
  | port p => exact List.mem_append_left _ (List.mem_map_of_mem (mem_allPorts p))
  | link | journal | keepalive | supply | thermal | store | mode => decide

theorem sourceNumber_lt (src : Source) : sourceNumber src < 16 := by
  cases src with
  | port p => exact Nat.lt_of_lt_of_le p.isLt (by decide)
  | link | journal | keepalive | supply | thermal | store | mode => decide

/-- ATTN_PENDING shows the latches (R152). -/
theorem State.attnPending_getLsbD (s : State) (n : Nat) :
    s.attnPending.getLsbD n = true ↔ ∃ src, sourceNumber src = n ∧ (s.attn.latch src).nonempty = true := by
  unfold State.attnPending
  rw [bitsWhere_getLsbD]
  constructor
  · rintro ⟨_, x, hx, hn, hp⟩
    obtain ⟨src, _, rfl⟩ := List.mem_map.1 hx
    exact ⟨src, hn, hp⟩
  · rintro ⟨src, rfl, hp⟩
    exact ⟨sourceNumber_lt src, _, List.mem_map.2 ⟨src, mem_allSources src, rfl⟩, rfl, hp⟩

section
variable (s : State)

/-- DEVICE_MODE (section 12.6). -/
theorem State.deviceMode_eq : s.readReg .deviceMode =
    (0#12 ++ BitVec.ofNat 2 (safeCauseCode s.safeCause) ++ BitVec.ofNat 2 (modeCode s.mode) : BitVec (12 + 2 + 2)) :=
  Packs.eq (.field (.field (.top _ _) rfl) rfl)

/-- SUPPLY_STATUS (R81). -/
theorem State.supplyStatus_eq : s.supplyStatus =
    s.sup.attempts ++ 0#4 ++ BitVec.ofBool s.inhibit ++ BitVec.ofBool s.sup.hot ++ BitVec.ofNat 2 (fieldStateCode s.sup.field) :=
  Packs.eq (.field (.field (.field (.gap 4 (.last (ofNat_toNat_self _))) (ofNat_bitNat _)) (ofNat_bitNat _)) rfl)

/-- LINK_STATUS (R17). -/
theorem Link.status_eq (l : Link) : l.status = 0#4 ++ BitVec.ofBool l.replyCut ++ l.lastKind ++ l.lastTag :=
  Packs.eq (.field (.field (.field (.top _ _) (ofNat_bitNat _)) (ofNat_toNat_self _)) (ofNat_toNat_self _))

/-- The first register of LINK_FAULT_CAPTURE (R19). -/
theorem Capture.word_eq (c : Capture) :
    c.word = BitVec.ofBool c.held ++ BitVec.ofBool c.overflow ++ 0#3 ++ c.kind ++ c.code :=
  Packs.eq (.field (.field (.gap 3 (.field (.last (ofNat_bitNat _)) (ofNat_bitNat _))) (ofNat_toNat_self _)) (ofNat_toNat_self _))

/-- ATTN_STACK (R159), with the ceiling and the top entry as it shows them. -/
theorem State.attnStack_eq : s.attnStack =
    0#1 ++ BitVec.ofNat 3 s.ceiling ++ 0#1 ++ BitVec.ofNat 3 ((s.attn.stack.head?.map (fun e => e.priority.toNat)).getD 0) ++
      BitVec.ofNat 4 ((s.attn.stack.head?.map (fun e => sourceNumber e.source)).getD 15) ++ 0#1 ++
      BitVec.ofNat 3 s.attn.stack.length :=
  Packs.eq (.field (.gap 1 (.field (.field (.gap 1 (.field (.top _ _) rfl)) rfl) rfl)) rfl)

/-- JOURNAL_FILL (R149). -/
theorem Journal.fillWord_eq (j : Journal) : j.fillWord = j.refusals ++ 0#2 ++ BitVec.ofNat 6 j.entries.length :=
  Packs.eq (.field (.gap 2 (.last (ofNat_toNat_self _))) rfl)

/-- KA_STATUS (R165). -/
theorem State.kaStatus_eq : s.kaStatus =
    0#4 ++ s.cfg.autoArm ++ 0#1 ++ s.ka.period ++ 0#1 ++ BitVec.ofNat 3 (kaStateCode s.ka.state) :=
  Packs.eq (.field (.gap 1 (.field (.gap 1 (.field (.top _ _) (ofNat_toNat_self _))) (ofNat_toNat_self _))) rfl)

/-- STORE_STATUS (R183). -/
theorem Store.status_eq (st : Store) : st.status =
    0#4 ++ BitVec.ofBool st.factoryValid ++ st.lastResult ++ BitVec.ofNat 2 (bankStateCode st.bankB) ++
      BitVec.ofNat 2 (bankStateCode st.bankA) ++ BitVec.ofNat 2 ((st.current.map bankCode).getD 0) ++
      BitVec.ofNat 2 (commitCode st.commit) :=
  Packs.eq (.field (.field (.field (.field (.field (.field (.top _ _) (ofNat_bitNat _)) (ofNat_toNat_self _)) rfl) rfl) rfl) rfl)

/-- POOL_HELD (R126). -/
theorem Port.poolHeld_eq (pt : Port) : pt.poolHeld =
    0#2 ++ BitVec.ofBool pt.noticeHeld ++ BitVec.ofBool pt.inFlight.isSome ++ BitVec.ofNat 4 pt.done.length ++
      BitVec.ofNat 4 pt.queue.length ++ BitVec.ofNat 4 pt.heldCount :=
  Packs.eq (.field (.field (.field (.field (.field (.top _ _) (ofNat_bitNat _)) (ofNat_bitNat _)) rfl) rfl) rfl)

/-- PORT_STATE (R48, R101). -/
theorem Port.stateWord_eq (pt : Port) : pt.stateWord =
    0#1 ++ BitVec.ofNat 3 (outStateCode pt.signal.state) ++ 0#1 ++ BitVec.ofNat 3 (outStateCode pt.feed.state) ++
      BitVec.ofNat 4 (reasonCode pt.engine.reason) ++ BitVec.ofBool pt.engine.pauseRequested ++
      BitVec.ofNat 3 (engStateCode pt.engine.state) :=
  Packs.eq (.field (.field (.field (.field (.gap 1 (.field (.top _ _) rfl)) rfl) rfl) (ofNat_bitNat _)) rfl)

/-- The low four bits of a byte. -/
theorem setWidth_eq_extractLsb' (b : Byte) : BitVec.ofNat 4 b.toNat = b.extractLsb' 0 4 := by
  ext i hi; simp

/-- A port holds a slot of origin NOTICE (R126). -/
theorem Port.noticeHeld_eq (pt : Port) : pt.noticeHeld = decide (∃ r ∈ pt.held, r.origin = .notice) := by
  rw [Bool.eq_iff_iff, Port.noticeHeld, List.any_eq_true, decide_eq_true_eq]
  simp only [beq_iff_eq]

/-- RAW (R65). -/
theorem State.rawLevel_eq (p : Fin 8) :
    s.rawLevel p = (s.pins.raw.get p && decide ((s.conf p).signalMode ≠ 0) && decide (s.mode ≠ .startup)) := by
  rw [Bool.eq_iff_iff]; simp [State.rawLevel]

/-- The TETHER mode (section 2.3). -/
theorem PortConfig.tether_eq (c : PortConfig) : c.tether = decide (c.signalMode = 5) := by
  rw [Bool.eq_iff_iff]; simp [PortConfig.tether]

/-- A debounce timer runs when it has a length (R66). -/
theorem Receiver.settling_isSome (rx : Receiver) : rx.settling.isSome = (rx.settling != none) := by
  cases rx.settling <;> rfl

/-- INPUT_STATUS (R65, R111). -/
theorem State.inputStatus_eq (p : Fin 8) : s.inputStatus p =
    0#4 ++ (s.port p).engine.inputLen.extractLsb' 0 4 ++ 0#2 ++ BitVec.ofBool (s.port p).engine.notice ++
      BitVec.ofBool (s.port p).engine.fault ++ BitVec.ofBool (s.port p).rx.settling.isSome ++ BitVec.ofBool (s.rawLevel p) ++
      BitVec.ofBool (s.port p).rx.level ++ BitVec.ofBool ((s.port p).engine.valid && (s.conf p).tether) :=
  Packs.eq (.field (.field (.field (.field (.field (.field (.gap 2 (.field (.top _ _) (setWidth_eq_extractLsb' _)))
    (ofNat_bitNat _)) (ofNat_bitNat _)) (ofNat_bitNat _)) (ofNat_bitNat _)) (ofNat_bitNat _)) (ofNat_bitNat _))

/-- KA_REMAINING of a running timer (R165). -/
theorem Keepalive.remaining_running {k : Keepalive} (h : k.state = .armed ∨ k.state = .warned) :
    k.remaining = keepaliveMs k.period.toNat - k.elapsedMs := if_pos ((KaState.running_iff _).2 h)

/-- KA_REMAINING of a stopped timer (R165). -/
theorem Keepalive.remaining_stopped {k : Keepalive} (ha : k.state ≠ .armed) (hw : k.state ≠ .warned) : k.remaining = 0 :=
  if_neg (fun h => ((KaState.running_iff _).1 h).elim ha hw)

/-- The period of each period code (chapter 10). -/
theorem keepaliveMs_eq (period : BitVec 3) :
    [10, 20, 50, 100, 200, 500, 1000, 2000][period.toNat]? = some (keepaliveMs period.toNat) := by
  revert period; decide

/-- The ceiling as three bits (R155): the floor, or the top entry's priority where that is greater. -/
theorem ceiling_bits (floor top : BitVec 3) :
    BitVec.ofNat 3 (max floor.toNat top.toNat) = if floor.toNat < top.toNat then top else floor := by
  revert floor top; decide

end

/-- Settles O9: the judgement of a READ, and the layout of each register. -/
theorem readReturnsTheRange : Obligations.ReadReturnsTheRange := by
  refine ⟨fun s f start count h => exec_read_cases h, fun s => ⟨State.reads rfl rfl, State.reads rfl rfl, State.reads rfl ?_, State.reads rfl ?_,
    State.reads rfl ?_, State.reads rfl rfl, State.reads rfl rfl, ?_, State.reads rfl ?_, State.reads rfl (Link.status_eq _), State.reads rfl rfl,
    State.reads rfl (Capture.word_eq _), State.reads rfl ?_, State.reads rfl rfl, State.reads rfl rfl, State.reads rfl rfl, State.attnPending_getLsbD s,
    State.reads rfl ?_, State.reads rfl (Journal.fillWord_eq _), State.reads rfl rfl, State.reads rfl rfl, State.reads rfl ?_, ?_, ?_,
    State.reads rfl ?_, State.reads rfl rfl, State.reads rfl ?_, fun p => ?_⟩⟩
  · exact BitVec.setWidth_eq_append (by decide)
  · exact s.deviceMode_eq.trans (by cases s.safeCause <;> cases s.mode <;> rfl)
  · exact BitVec.setWidth_eq_append (by decide)
  · exact (BitVec.extractLsb'_append_extractLsb'_eq_extractLsb' rfl).trans BitVec.extractLsb'_eq_self
  · exact s.supplyStatus_eq.trans (by cases s.sup.field <;> rfl)
  · exact BitVec.setWidth_eq_append (by decide)
  · refine s.attnStack_eq.trans ?_
    unfold State.ceiling
    cases s.attn.stack with
    | nil => exact congrArg (fun x : BitVec 3 => 0#1 ++ x ++ _ ++ _ ++ _ ++ _ ++ _) (ceiling_bits _ 0#3)
    | cons e stack =>
      rw [List.head?_cons, Option.map_some, Option.getD_some, field, ceiling_bits, ofNat_toNat_self]
      rfl
  · exact s.kaStatus_eq.trans (by cases s.ka.state <;> rfl)
  · intro hk period hp
    rw [keepaliveMs_eq] at hp
    cases hp
    exact State.reads rfl (congrArg (BitVec.ofNat 16) (Keepalive.remaining_running hk))
  · intro ha hw
    exact State.reads rfl (congrArg (BitVec.ofNat 16) (Keepalive.remaining_stopped ha hw))
  · refine (Store.status_eq _).trans ?_
    congr 4
    · cases s.store.bankB <;> rfl
    · cases s.store.bankA <;> rfl
    · rcases s.store.current with _ | _ | _ <;> rfl
    · cases s.store.commit <;> rfl
  · unfold State.readReg State.freeSlots allSlots
    simp
  · refine ⟨State.readsPort (by decide) ?_, State.readsPort (by decide) ?_, State.readsPort (by decide) rfl,
      State.readsPort (by decide) ?_, State.readsPort (by decide) rfl, State.readsPort (by decide) rfl,
      State.readsPort (by decide) rfl, State.readsPort (by decide) rfl, State.readsPort (by decide) rfl,
      State.readsPort (by decide) rfl, State.readsPort (by decide) rfl, State.readsPort (by decide) rfl,
      State.readsPort (by decide) rfl, State.readsPort (by decide) rfl, State.readsPort (by decide) rfl,
      State.readsPort (by decide) rfl, State.readsPort (by decide) rfl⟩
    · refine (Port.poolHeld_eq (s.port p)).trans ?_
      rw [Port.noticeHeld_eq, Port.heldCount]
      cases (s.port p).inFlight <;> rfl
    · refine (Port.stateWord_eq (s.port p)).trans ?_
      congr 6
      · cases (s.port p).signal.state <;> rfl
      · cases (s.port p).feed.state <;> rfl
      · cases (s.port p).engine.reason <;> rfl
      · cases (s.port p).engine.state <;> rfl
    · refine (s.inputStatus_eq p).trans ?_
      rw [State.rawLevel_eq, PortConfig.tether_eq, Receiver.settling_isSome]

end Sys2Proof.Machine

/-! The read-write registers as a register file: what a WRITE's entries leave in each (R5). -/

namespace Sys2Proof.Machine

/-! ### The registers of a port -/

/-- The read-write register of a port at an offset (section 12.6); 0 where there is none. -/
def PortConfig.reg (c : PortConfig) (offset : Fin 32) : Word :=
  match offset.val with
  | 0x00 => c.portMode
  | 0x01 => c.feedGuard
  | 0x02 => c.signalGuard
  | 0x03 => c.safeAction
  | 0x04 => c.lineConfig
  | 0x05 => c.quota
  | 0x07 => c.attnMask
  | 0x08 => c.expectClass
  | 0x09 => c.expectIdHi
  | 0x0A => c.expectIdLo
  | 0x0B => c.outputLen
  | 0x0C => c.outputImage.w0
  | 0x0D => c.outputImage.w1
  | 0x0E => c.outputImage.w2
  | 0x0F => c.outputImage.w3
  | _ => 0#16

/-- The offsets of the read-write registers of a port. -/
abbrev RwOffset (offset : Fin 32) : Prop := offset.val ≤ 0x0F ∧ offset.val ≠ 0x06

/-- The read-write offsets, one by one. -/
def rwOffsets : List (Fin 32) := [0, 1, 2, 3, 4, 5, 7, 8, 9, 10, 11, 12, 13, 14, 15]

theorem mem_rwOffsets : ∀ {offset : Fin 32}, RwOffset offset → offset ∈ rwOffsets := by decide

/-- What two readings show alike at each read-write offset in turn, they show alike at every one. -/
theorem RwOffset.readings_eq {read read' : Fin 32 → Word} (h : rwOffsets.map read = rwOffsets.map read') {offset : Fin 32}
    (hrw : RwOffset offset) : read offset = read' offset := List.map_inj_left.1 h offset (mem_rwOffsets hrw)

/-- A register of a port written reads its new value. -/
theorem PortConfig.reg_setReg_self (c : PortConfig) {offset : Fin 32} (v : Word) (h : RwOffset offset) :
    (c.setReg offset v).reg offset = v :=
  RwOffset.readings_eq (read := fun o => (c.setReg o v).reg o) (read' := fun _ => v) rfl h

/-- The other registers of a port keep their values. -/
theorem PortConfig.reg_setReg_of_ne (c : PortConfig) {o o' : Fin 32} (v : Word) (h : o' ≠ o) :
    (c.setReg o v).reg o' = c.reg o' := by
  have hne : o'.val ≠ o.val := fun hv => h (Fin.ext hv)
  unfold PortConfig.setReg
  split <;> first
    | rfl
    | (unfold PortConfig.reg
       split <;> first
        | rfl
        | exact absurd (‹o'.val = _›.trans ‹o.val = _›.symm) hne)
/-! ### The registers of the device -/

/-- The read-write register of the settings (section 12.6); 0 for a register that is not read-write. -/
def Settings.reg (c : Settings) : Reg → Word
  | .deviceSettings => c.deviceSettings
  | .attnFloor => c.attnFloor
  | .attnPriority i => c.attnPriority[i]
  | .journalConfig => c.journalConfig
  | .port p offset => (c.ports.get p).reg offset
  | _ => 0#16

/-- A read-write port register is at a read-write offset. -/
theorem rwOffset_of_writable {p : Fin 8} {offset : Fin 32} (h : writable (.port p offset) = true) : RwOffset offset := by
  simpa [writable] using h

/-- What software reads of a read-write register is the setting. -/
theorem State.readReg_writable (s : State) {r : Reg} (h : writable r = true) : s.readReg r = s.cfg.reg r := by
  cases r with
  | port p offset =>
    exact RwOffset.readings_eq (read := s.readPortReg p) (read' := (s.conf p).reg) rfl (rwOffset_of_writable h)
  | deviceSettings | attnFloor | attnPriority | journalConfig => rfl
  | _ => exact absurd h Bool.false_ne_true

/-- A register written reads its new value. -/
theorem Settings.reg_setReg_self (c : Settings) {r : Reg} (v : Word) (h : writable r = true) : (c.setReg r v).reg r = v := by
  cases r with
  | port p offset =>
    show ((c.ports.set p ((c.ports.get p).setReg offset v)).get p).reg offset = v
    rw [Eight.get_set_self]
    exact PortConfig.reg_setReg_self _ v (rwOffset_of_writable h)
  | attnPriority i => exact Vector.getElem_set_self i.isLt
  | deviceSettings | attnFloor | journalConfig => rfl
  | _ => exact absurd h Bool.false_ne_true

/-- The other registers keep their values. -/
theorem Settings.reg_setReg_of_ne (c : Settings) {r r' : Reg} (v : Word) (h : r' ≠ r) : (c.setReg r v).reg r' = c.reg r' := by
  cases r with
  | port p offset =>
    cases r' with
    | port q offset' =>
      show ((c.ports.set p ((c.ports.get p).setReg offset v)).get q).reg offset' = (c.ports.get q).reg offset'
      rw [Eight.get_set]
      split
      next hq =>
        subst hq
        exact PortConfig.reg_setReg_of_ne _ v (fun ho => h (by rw [ho]))
      next => rfl
    | _ => rfl
  | attnPriority i =>
    cases r' with
    | attnPriority j => exact Vector.getElem_set_ne i.isLt j.isLt (fun hij => h (by rw [Fin.ext hij]))
    | _ => rfl
  | deviceSettings | attnFloor | journalConfig =>
    cases r' with
    | deviceSettings | attnFloor | journalConfig => first | rfl | exact absurd rfl h
    | _ => rfl
  | _ => rfl

/-! ### Addresses -/

/-- The address of a register (section 12.6, R190). -/
def Reg.address : Reg → Nat
  | .deviceId => 0x000
  | .revision => 0x001
  | .unit => 0x002
  | .deviceMode => 0x003
  | .resetCause => 0x004
  | .deviceCondition => 0x005
  | .deviceSettings => 0x006
  | .reserved => 0x007
  | .timeHi => 0x008
  | .timeLo => 0x009
  | .supplyStatus => 0x00A
  | .linkStatus => 0x010
  | .linkRejects => 0x011
  | .captureCode => 0x012
  | .captureTag => 0x013
  | .captureAddress => 0x014
  | .captureTime => 0x015
  | .runtCount => 0x016
  | .attnPending => 0x020
  | .attnStack => 0x021
  | .attnFloor => 0x022
  | .attnPriority r => 0x028 + r.val
  | .journalConfig => 0x030
  | .journalFill => 0x031
  | .journalNextSeq => 0x032
  | .journalLost => 0x033
  | .kaStatus => 0x038
  | .kaRemaining => 0x039
  | .storeStatus => 0x03C
  | .storeGeneration => 0x03D
  | .poolFree => 0x03E
  | .port p offset => 0x100 + 0x20 * p.val + offset.val

/-- A register is mapped at its own address only (R190). -/
theorem address_of_regAt {address : Nat} {r : Reg} (h : regAt address = some r) : r.address = address := by
  unfold regAt at h
  split at h
  · cases h
    show 0x100 + 0x20 * ((address - 0x100) / 32) + address % 32 = address
    omega
  · unfold deviceRegAt at h
    split at h <;> first
      | (cases h; rfl)
      | exact absurd h.symm (Option.some_ne_none _)

/-- Two addresses of one register are the same (R190). -/
theorem regAt_inj {a b : Word} {r : Reg} (ha : regAt a.toNat = some r) : regAt b.toNat = some r ↔ b = a :=
  ⟨fun hb => BitVec.eq_of_toNat_eq ((address_of_regAt hb).symm.trans (address_of_regAt ha)), fun h => h ▸ ha⟩

/-! ### The entries of a WRITE in turn (R5) -/

/-- An entry names a register. -/
def WriteEntry.names (r : Reg) (e : WriteEntry) : Bool := regAt e.address.toNat == some r

/-- One entry applied. -/
theorem Settings.apply_singleton_reg (c : Settings) (e : WriteEntry) {r : Reg} (h : writable r = true) :
    (c.apply [e]).reg r = if WriteEntry.names r e then e.value else c.reg r := by
  unfold WriteEntry.names
  show (match regAt e.address.toNat with | some q => c.setReg q e.value | none => c).reg r = _
  cases he : regAt e.address.toNat with
  | none => rfl
  | some q =>
    by_cases hq : q = r
    · subst hq
      simp only [beq_self_eq_true, if_true]
      exact Settings.reg_setReg_self c e.value h
    · rw [if_neg (by simpa using hq)]
      exact Settings.reg_setReg_of_ne c e.value (Ne.symm hq)

theorem Settings.apply_cons (c : Settings) (e : WriteEntry) (l : List WriteEntry) :
    c.apply (e :: l) = (c.apply [e]).apply l := rfl

/-- The last entry that names a register gives its value (R5). -/
theorem Settings.apply_reg (c : Settings) (entries : List WriteEntry) {r : Reg} (h : writable r = true) :
    (c.apply entries).reg r = ((entries.filter (WriteEntry.names r)).getLast?.map WriteEntry.value).getD (c.reg r) := by
  induction entries generalizing c with
  | nil => rfl
  | cons e l ih =>
    rw [Settings.apply_cons, ih, Settings.apply_singleton_reg c e h]
    cases he : WriteEntry.names r e with
    | true =>
      rw [List.filter_cons_of_pos he, List.getLast?_cons]
      cases (l.filter (WriteEntry.names r)).getLast? <;> rfl
    | false =>
      rw [List.filter_cons_of_neg (by simp [he])]
      rfl

/-- A register that no entry names keeps its value (R5). -/
theorem Settings.apply_reg_of_unnamed (c : Settings) {entries : List WriteEntry} {r : Reg} (h : writable r = true)
    (hn : ∀ e ∈ entries, WriteEntry.names r e = false) : (c.apply entries).reg r = c.reg r := by
  rw [Settings.apply_reg c entries h, List.filter_eq_nil_iff.2 (fun e he => by simp [hn e he])]
  rfl

end Sys2Proof.Machine

/-! What the engines leave of the outputs, the outputs after a WRITE, and one port's turn among the others (R51, R52). -/

namespace Sys2Proof.Machine

/-! ### Operations that leave every output alone -/

/-- Every output is the same. -/
def State.SameOutputs (s t : State) : Prop := ∀ q o, (t.port q).out o = (s.port q).out o

namespace State.SameOutputs

variable {s t u : State}

theorem refl (s : State) : s.SameOutputs s := fun _ _ => rfl

theorem trans (h : s.SameOutputs t) (k : t.SameOutputs u) : s.SameOutputs u := fun q o => (k q o).trans (h q o)

theorem ite (c : Prop) [Decidable c] (h : s.SameOutputs t) (k : s.SameOutputs u) : s.SameOutputs (if c then t else u) := by
  split <;> assumption

end State.SameOutputs

variable (s : State) (p : Fin 8)

theorem State.modPort_sameOutputs (f : Port → Port) (h : ∀ pt o, (f pt).out o = pt.out o) : s.SameOutputs (s.modPort p f) := by
  intro q o
  rw [State.modPort_port]
  by_cases hq : q = p
  · rw [if_pos hq, h, hq]
  · rw [if_neg hq]

theorem State.modEngine_sameOutputs (f : Engine → Engine) : s.SameOutputs (s.modEngine p f) :=
  s.modPort_sameOutputs p _ (fun _ o => by cases o <;> rfl)

theorem State.modLine_sameOutputs (f : LineState → LineState) : s.SameOutputs (s.modLine p f) := s.modEngine_sameOutputs p _

theorem State.log_sameOutputs (e : Event) : s.SameOutputs (s.log e) := .refl s

theorem State.cause_sameOutputs (k : Fin 10) : s.SameOutputs (s.cause p k) := by
  unfold State.cause; split
  · exact .refl s
  · exact .refl s

theorem State.causeIf_sameOutputs (c : Bool) (k : Fin 10) : s.SameOutputs (s.causeIf c p k) :=
  .ite _ (s.cause_sameOutputs p k) (.refl s)

theorem State.receiverFollow_sameOutputs (old : Nat) : s.SameOutputs (s.receiverFollow p old) :=
  .ite _ (.refl s) (s.modPort_sameOutputs p _ (fun _ o => by cases o <;> rfl))

theorem State.abandon_sameOutputs : s.SameOutputs (s.abandon p) := by
  unfold State.abandon; simp only []
  split
  · exact .refl s
  · exact (s.modPort_sameOutputs p _ (fun _ o => by cases o <;> rfl)).trans
      ((State.log_sameOutputs _ _).trans (State.cause_sameOutputs _ p 6))

theorem State.detach_sameOutputs (r : Reason) : s.SameOutputs (s.detach p r) := by
  unfold State.detach; simp only []
  split
  · exact .refl s
  · exact (s.modEngine_sameOutputs p _).trans ((State.log_sameOutputs _ _).trans
      ((State.causeIf_sameOutputs _ p _ 3).trans (State.abandon_sameOutputs _ p)))

theorem State.beginAttempt_sameOutputs (x : Exchange) : s.SameOutputs (s.beginAttempt p x) := by
  unfold State.beginAttempt; split
  · exact s.modLine_sameOutputs p _
  · exact s.modLine_sameOutputs p _

theorem State.enterWaking_sameOutputs : s.SameOutputs (s.enterWaking p) := by
  unfold State.enterWaking; simp only []
  split
  · exact s.modEngine_sameOutputs p _
  · exact (s.modEngine_sameOutputs p _).trans ((State.modEngine_sameOutputs _ p _).trans (State.beginAttempt_sameOutputs _ p _))

theorem State.autoBind_sameOutputs (triggered : Bool) : s.SameOutputs (s.autoBind p triggered) := by
  unfold State.autoBind; simp only []
  split
  · split
    · exact s.enterWaking_sameOutputs p
    · exact .ite _ (s.modEngine_sameOutputs p _) (.refl s)
  · exact .refl s

theorem State.settleDue_sameOutputs : s.SameOutputs (s.settleDue p) := by
  unfold State.settleDue; simp only []
  split
  · split
    · exact .ite _ (s.enterWaking_sameOutputs p) (.refl s)
    · exact .ite _ (s.enterWaking_sameOutputs p) (.ite _ (.refl s) (s.modEngine_sameOutputs p _))
  · exact .refl s

theorem State.hushFollow_sameOutputs : s.SameOutputs (s.hushFollow p) := .ite _ (.refl s) (s.modLine_sameOutputs p _)

/-- The engine's response to its port's outputs leaves the outputs (R62). -/
theorem State.engineFollow_sameOutputs (before : Port) : s.SameOutputs (s.engineFollow p before) := by
  unfold State.engineFollow; simp only []
  refine (s.hushFollow_sameOutputs p).trans (State.SameOutputs.trans ?_ (State.settleDue_sameOutputs _ p))
  exact .ite _ (State.detach_sameOutputs _ p _) (.ite _ (State.detach_sameOutputs _ p _)
    (.ite _ (State.autoBind_sameOutputs _ p _) (.refl _)))

/-! ### An output comparing its enable (R51, R52) -/

@[simp] theorem Port.out_setOut_self (pt : Port) (o : Out) (x : Output) : (pt.setOut o x).out o = x := by cases o <;> rfl

theorem Port.out_setOut_of_ne (pt : Port) {o o' : Out} (x : Output) (h : o' ≠ o) : (pt.setOut o x).out o' = pt.out o' := by
  cases o <;> cases o' <;> first | rfl | exact absurd rfl h

@[simp] theorem State.setOut_out_self (o : Out) (x : Output) : ((s.setOut p o x).port p).out o = x := by
  rw [State.setOut, State.modPort_port_self, Port.out_setOut_self]

theorem State.setOut_out_of_ne {o o' : Out} (x : Output) (h : o' ≠ o) : ((s.setOut p o x).port p).out o' = (s.port p).out o' := by
  rw [State.setOut, State.modPort_port_self, Port.out_setOut_of_ne _ _ h]

/-- An output that compares its enable with its state (R51). -/
theorem State.reEnable_out_self (o : Out) :
    ((s.reEnable p o).port p).out o =
      ((s.port p).out o).judged (s.enabled p o) s.inhibit (s.overloaded p o) ((s.conf p).cutoff o) := by
  unfold State.reEnable Output.judged State.bringOut State.engageOut Output.engage
  simp only [Bool.or_eq_true, decide_eq_true_eq]
  repeat' split
  all_goals simp [Output.disable, settleUs]

/-- The other output of the port is left alone. -/
theorem State.reEnable_out_of_ne {o o' : Out} (h : o' ≠ o) : ((s.reEnable p o).port p).out o' = (s.port p).out o' := by
  unfold State.reEnable State.bringOut State.engageOut
  simp only []
  repeat' split
  all_goals simp [State.setOut_out_of_ne _ _ _ h]

/-! ### What a state that touches ports keeps for the judgement of an output -/

namespace Touches

variable {P : Fin 8 → Prop} {s t : State}

theorem inhibit (h : Touches P s t) : t.inhibit = s.inhibit := by unfold State.inhibit; rw [h.sup]

theorem enabled (h : Touches P s t) (p : Fin 8) (o : Out) : t.enabled p o = s.enabled p o := by
  unfold State.enabled; rw [h.mode, h.conf]

theorem overloaded (h : Touches P s t) (p : Fin 8) (o : Out) : t.overloaded p o = s.overloaded p o := by
  cases o <;> simp only [State.overloaded, State.drives, h.mode, h.conf, h.pins]

end Touches

/-- An output compares its enable where a WRITE has changed it (R51). -/
theorem State.reEnableChanged_out_self (old : PortConfig) (o : Out) :
    ((s.reEnableChanged p old o).port p).out o =
      if outEnabled s.mode old o = s.enabled p o then (s.port p).out o
      else ((s.port p).out o).judged (s.enabled p o) s.inhibit (s.overloaded p o) ((s.conf p).cutoff o) := by
  unfold State.reEnableChanged
  split
  · rfl
  · exact s.reEnable_out_self p o

/-- The other output of the port is left alone. -/
theorem State.reEnableChanged_out_of_ne (old : PortConfig) {o o' : Out} (h : o' ≠ o) :
    ((s.reEnableChanged p old o).port p).out o' = (s.port p).out o' := by
  unfold State.reEnableChanged
  split
  · rfl
  · exact s.reEnable_out_of_ne p h

/-- Both outputs of a port compare their changed enables, FEED before SIGNAL (R51). -/
theorem State.reEnableChanged_both_out (old : PortConfig) (o : Out) :
    (((s.reEnableChanged p old .feed).reEnableChanged p old .signal).port p).out o =
      if outEnabled s.mode old o = s.enabled p o then (s.port p).out o
      else ((s.port p).out o).judged (s.enabled p o) s.inhibit (s.overloaded p o) ((s.conf p).cutoff o) := by
  cases o with
  | feed => rw [State.reEnableChanged_out_of_ne _ p old (by decide), State.reEnableChanged_out_self]
  | signal =>
    have h := s.reEnableChanged_touches p old .feed
    rw [State.reEnableChanged_out_self, State.reEnableChanged_out_of_ne s p old (by decide), h.mode, h.enabled, h.inhibit,
      h.overloaded, h.conf]

/-- An output after the consequences of a WRITE for its port (R42, R51, R52). -/
theorem State.portWritten_out (old : PortConfig) (o : Out) :
    ((s.portWritten p old).port p).out o =
      if old.portMode = (s.conf p).portMode ∨ outEnabled s.mode old o = s.enabled p o then (s.port p).out o
      else ((s.port p).out o).judged (s.enabled p o) s.inhibit (s.overloaded p o) ((s.conf p).cutoff o) := by
  unfold State.portWritten
  simp only []
  by_cases hm : old.portMode = (s.conf p).portMode
  · rw [if_pos hm, if_pos (Or.inl hm)]
  · have h := s.receiverFollow_touches p old.signalMode
    have hout := s.receiverFollow_sameOutputs p old.signalMode
    have hboth := (s.receiverFollow p old.signalMode).reEnableChanged_both_out p old o
    rw [h.mode, h.enabled, h.inhibit, h.overloaded, h.conf, hout] at hboth
    have htether (c : Prop) [Decidable c] (u : State) (before : Port) :
        u.SameOutputs (if c then ((u.hushFollow p).detach p .mode).settleDue p else u.engineFollow p before) :=
      .ite _ ((u.hushFollow_sameOutputs p).trans ((State.detach_sameOutputs _ p _).trans (State.settleDue_sameOutputs _ p)))
        (u.engineFollow_sameOutputs p before)
    have hbind (c : Prop) [Decidable c] (u : State) : u.SameOutputs (if c then (u.autoBind p false).settleDue p else u) :=
      .ite _ ((u.autoBind_sameOutputs p false).trans (State.settleDue_sameOutputs _ p)) (.refl u)
    rw [if_neg hm, hbind, htether, hboth]
    simp only [hm, false_or]

/-! ### One port's turn (R37) -/

/-- Operations on other ports leave a port alone. -/
theorem State.foldl_touches_others (f : Fin 8 → State → State) (h : ∀ p s, TouchesPort p s (f p s)) {q : Fin 8} :
    ∀ (l : List (Fin 8)) (s : State), q ∉ l → Touches (fun p => p ≠ q) s (l.foldl (fun t p => f p t) s)
  | [], s, _ => Touches.refl _ s
  | p :: l, s, hq => ((h p s).mono (fun _ hp => fun hpq => hq (by simp [← hp, hpq]))).trans
      (State.foldl_touches_others f h l (f p s) (fun hl => hq (List.mem_cons_of_mem p hl)))

/-- An operation taken for every port in turn: a port has its turn in a state that differs from the first only on other ports, and
what follows concerns other ports only. -/
theorem State.forPorts_turn (f : Fin 8 → State → State) (h : ∀ p s, TouchesPort p s (f p s)) (q : Fin 8) :
    ∃ u, Touches (fun p => p ≠ q) s u ∧ Touches (fun p => p ≠ q) (f q u) (s.forPorts f) := by
  obtain ⟨pre, post, hsplit⟩ := List.append_of_mem (mem_allPorts q)
  have hnodup : (pre ++ q :: post).Nodup := hsplit ▸ (by decide : allPorts.Nodup)
  have hpre : q ∉ pre := fun hq => (List.nodup_append.1 hnodup).2.2 q hq q List.mem_cons_self rfl
  have hpost : q ∉ post := (List.nodup_cons.1 (List.nodup_append.1 hnodup).2.1).1
  refine ⟨pre.foldl (fun t p => f p t) s, State.foldl_touches_others f h pre s hpre, ?_⟩
  unfold State.forPorts
  rw [hsplit, List.foldl_append, List.foldl_cons]
  exact State.foldl_touches_others f h post _ hpost

end Sys2Proof.Machine

/-! An accepted WRITE (O22). -/

namespace Sys2Proof.Machine

/-! ### The configuration after a WRITE -/

/-- An output's enable depends on PORT_MODE, and in SAFE_HOLD on SAFE_ACTION (R49, R50). -/
theorem outEnabled_congr {mode : Mode} {a b : PortConfig} (hm : a.portMode = b.portMode)
    (hs : mode = .safeHold → a.safeAction = b.safeAction) (o : Out) : outEnabled mode a o = outEnabled mode b o := by
  by_cases h : mode = .safeHold
  · cases o <;> simp only [outEnabled, feedEnabled, signalEnabled, PortConfig.feedEnable, PortConfig.safeFeedKeep,
      PortConfig.signalMode, PortConfig.safeSignal, PortConfig.tether, hm, hs h]
  · have hne : (mode == .safeHold) = false := by simpa using h
    cases o <;> simp only [outEnabled, feedEnabled, signalEnabled, PortConfig.feedEnable, PortConfig.signalMode, hm, hne,
      Bool.false_and, Bool.or_false]

/-- A WRITE that no check refuses is under no lock (R40). -/
theorem State.unlocked_of_judgeWrite {s : State} {entries : List WriteEntry} (h : s.judgeWrite entries = none)
    (hm : s.mode = .safeHold) : ∀ e ∈ entries, WriteEntry.locked e = false := by
  have hl : s.writeLocked entries = false := by
    unfold State.judgeWrite at h
    split at h
    · exact absurd h (Option.some_ne_none _)
    · split at h
      · exact absurd h (Option.some_ne_none _)
      · cases hl : s.writeLocked entries with
        | false => rfl
        | true =>
          rw [hl, if_pos rfl] at h
          split at h <;> cases h
  intro e he
  refine Bool.eq_false_iff.2 (fun hc => ?_)
  rw [← Bool.not_eq_true, State.writeLocked_iff] at hl
  exact hl (.inl ⟨hm, e, he, (WriteEntry.locked_iff e).1 (by simpa using hc)⟩)

/-- In SAFE_HOLD a WRITE that no check refuses leaves the registers under a mode lock (R40). -/
theorem State.apply_reg_locked {s : State} {entries : List WriteEntry} (h : s.judgeWrite entries = none)
    (hm : s.mode = .safeHold) {r : Reg} (hw : writable r = true) (hr : modeLocked r = true) :
    (s.cfg.apply entries).reg r = s.cfg.reg r := by
  refine Settings.apply_reg_of_unnamed s.cfg hw (fun e he => ?_)
  have hl := State.unlocked_of_judgeWrite h hm e he
  refine Bool.eq_false_iff.2 (fun hn => ?_)
  have hreg : regAt e.address.toNat = some r := by simpa [WriteEntry.names] using hn
  rw [(WriteEntry.locked_iff e).2 ⟨r, hreg, hr⟩] at hl
  exact Bool.false_ne_true hl.symm

/-- A port whose PORT_MODE a WRITE leaves keeps its enables: SAFE_ACTION is locked where it matters (R40, R51). -/
theorem State.outEnabled_apply {s : State} {entries : List WriteEntry} (h : s.judgeWrite entries = none) (p : Fin 8)
    (hm : (s.conf p).portMode = ((s.cfg.apply entries).ports.get p).portMode) (o : Out) :
    outEnabled s.mode (s.conf p) o = outEnabled s.mode ((s.cfg.apply entries).ports.get p) o :=
  outEnabled_congr hm (fun hsafe => (State.apply_reg_locked h hsafe (r := .port p 3) rfl rfl).symm) o

/-! ### The state after a WRITE -/

/-- The state in which the consequences of a WRITE are taken: the settings that govern the step (notes/assumptions/33.md). -/
def State.inWrite (s : State) (entries : List WriteEntry) : State := s.modCfg (fun c => c.inStep (c.apply entries))

/-- The consequences of a WRITE, port by port (R42). -/
def State.written (s : State) (entries : List WriteEntry) : State :=
  (s.inWrite entries).forPorts (fun p u => u.portWritten p (s.cfg.ports.get p))

theorem State.applyWrite_eq (s : State) (entries : List WriteEntry) :
    s.applyWrite entries = (s.written entries).modCfg (fun _ => s.cfg.apply entries) := rfl

theorem State.written_touches (s : State) (entries : List WriteEntry) : TouchesPorts (s.inWrite entries) (s.written entries) :=
  State.forPorts_touches _ _ (fun p u => u.portWritten_touches p _)

/-- An accepted WRITE leaves what is outside configuration, ports, journal and attention (R42). -/
theorem State.applyWrite_frame (s : State) (entries : List WriteEntry) :
    { s.applyWrite entries with cfg := s.cfg, ports := s.ports, journal := s.journal, attn := s.attn } = s :=
  congrArg (fun u : State => { u with cfg := s.cfg }) (s.written_touches entries).fixed

/-- An output after an accepted WRITE: judged where its enable has changed, its current against the old CURRENT code (R51, R52;
notes/assumptions/33.md). -/
theorem State.applyWrite_out {s : State} {entries : List WriteEntry} (h : s.judgeWrite entries = none) (p : Fin 8) (o : Out) :
    let new := (s.cfg.apply entries).ports.get p
    ((s.applyWrite entries).port p).out o =
      if outEnabled s.mode new o = outEnabled s.mode (s.conf p) o then (s.port p).out o
      else ((s.port p).out o).judged (outEnabled s.mode new o) s.inhibit
        ((s.applyWrite entries).drives p o && decide ((s.conf p).cutoffCurrent o < s.pins.load p o)) (new.cutoff o) := by
  intro new
  obtain ⟨u, hu, hrest⟩ := (s.inWrite entries).forPorts_turn (fun p u => u.portWritten p (s.cfg.ports.get p))
    (fun p u => u.portWritten_touches p _) p
  have hport : (s.applyWrite entries).port p = (u.portWritten p (s.conf p)).port p := hrest.others p (fun h => h rfl)
  have hconf : (s.inWrite entries).conf p = (s.conf p).inStep new := Settings.inStep_ports s.cfg (s.cfg.apply entries) p
  have hsame : u.port p = s.port p := hu.others p (fun h => h rfl)
  have hmode : (s.applyWrite entries).mode = s.mode := (congrArg State.mode (s.applyWrite_frame entries) :)
  have hdrives : (s.inWrite entries).drives p o = (s.applyWrite entries).drives p o := by
    cases o with
    | feed => rfl
    | signal =>
      show signalDrives s.mode ((s.inWrite entries).conf p) = signalDrives (s.applyWrite entries).mode new
      rw [hconf, hmode]
      rfl
  have hover : (s.inWrite entries).overloaded p o =
      ((s.applyWrite entries).drives p o && decide ((s.conf p).cutoffCurrent o < s.pins.load p o)) := by
    rw [State.overloaded, hdrives, hconf, PortConfig.cutoffCurrent_inStep]
    rfl
  have henabled : (s.inWrite entries).enabled p o = outEnabled s.mode new o := by
    rw [State.enabled, hconf, outEnabled_inStep]
    rfl
  rw [hport, State.portWritten_out, hu.mode, hu.conf, hu.enabled, hu.inhibit, hu.overloaded, hsame, hover, henabled, hconf,
    PortConfig.portMode_inStep, PortConfig.cutoff_inStep]
  change (if (s.conf p).portMode = new.portMode ∨ outEnabled s.mode (s.conf p) o = outEnabled s.mode new o then _ else _) = _
  by_cases hc : outEnabled s.mode (s.conf p) o = outEnabled s.mode new o
  · rw [if_pos (Or.inr hc), if_pos hc.symm]
  · rw [if_neg, if_neg (Ne.symm hc)]
    · rfl
    · rintro (hm | he)
      · exact hc (State.outEnabled_apply h p hm o)
      · exact hc he

/-- A WRITE sent without error that no check refuses (R5). -/
theorem exec_write_accepted {s : State} {f : FrameHead} {entries : List WriteEntry} (h1 : 1 ≤ entries.length)
    (h8 : entries.length ≤ 8) (h : Sent s f kindWrite (entryBytes entries)) (hj : s.judgeWrite entries = none) :
    exec (.write f entries) s = .next ((s.begun.applyWrite entries).answered f kindWrite 0x00#8 [] .nothing).finish := by
  have hp : s.dropFrame.judgePayload kindWrite.toNat (entryBytes entries) = .accept (.write entries) := by
    show acceptUnless (s.judgeWrite (entriesOf (entryBytes entries))) (.write (entriesOf (entryBytes entries))) = _
    rw [entriesOf_entryBytes, hj]; rfl
  exact takeFrame_answered (d := accepted (s.begun.applyWrite entries) []) kindWrite_legal (write_length h1 h8) h hp rfl rfl

/-! ### What the beginning and the close of the step leave -/

@[simp] theorem State.begun_port (s : State) (p : Fin 8) : s.begun.port p = s.port p := by unfold State.port; rw [State.begun_ports]
@[simp] theorem State.begun_conf (s : State) (p : Fin 8) : s.begun.conf p = s.conf p := by unfold State.conf; rw [State.begun_cfg]
@[simp] theorem State.begun_inhibit (s : State) : s.begun.inhibit = s.inhibit := by unfold State.inhibit; rw [State.begun_sup]
@[simp] theorem State.finish_port (s : State) (p : Fin 8) : s.finish.port p = s.port p := by
  unfold State.port; rw [State.finish_ports]
@[simp] theorem State.finish_conf (s : State) (p : Fin 8) : s.finish.conf p = s.conf p := by unfold State.conf; rw [State.finish_cfg]
@[simp] theorem State.finish_drives (s : State) (p : Fin 8) (o : Out) : s.finish.drives p o = s.drives p o := by
  cases o with
  | feed => rfl
  | signal => simp only [State.drives, State.finish_mode, State.finish_conf]

section
variable (s : State) (f : FrameHead) (kind : BitVec 3) (status : Byte) (payload : List Byte) (d : Delivery)

@[simp] theorem State.answered_port (p : Fin 8) : (s.answered f kind status payload d).port p = s.port p := rfl
@[simp] theorem State.answered_conf (p : Fin 8) : (s.answered f kind status payload d).conf p = s.conf p := rfl
@[simp] theorem State.answered_drives (p : Fin 8) (o : Out) : (s.answered f kind status payload d).drives p o = s.drives p o := by
  cases o <;> rfl

end

/-- The checks of a WRITE depend on the mode, the configuration and the engines alone (R5, R39 to R41). -/
theorem State.judgeWrite_begun (s : State) (entries : List WriteEntry) : s.begun.judgeWrite entries = s.judgeWrite entries := by
  unfold State.judgeWrite State.writeLocked State.engine
  simp only [State.begun_mode, State.begun_port, State.begun_conf, State.begun_cfg]

/-- A state with the blocks that a WRITE may change taken from another. -/
def State.withBlocksOf (s u : State) : State :=
  { u with cfg := s.cfg, ports := s.ports, link := s.link, journal := s.journal, attn := s.attn, atn := s.atn }

/-- Settles O22: the register file for the values, `applyWrite_out` for the outputs, and the frames of the step's parts. -/
theorem lastWriteGivesTheValue : Obligations.LastWriteGivesTheValue := by
  intro s f entries h1 h8 h hj
  refine ⟨_, exec_write_accepted h1 h8 h hj, ?_, fun address r hr hw => ?_, fun p o => ?_, ?_⟩
  · simp only [Replying, State.finish_link]
    exact ⟨rfl, rfl, rfl, rfl⟩
  · have hnames : WriteEntry.names r = fun e => e.address == address := by
      funext e
      rw [Bool.eq_iff_iff, WriteEntry.names, beq_iff_eq, beq_iff_eq, regAt_inj hr]
    have hold : s.readAddress address.toNat = s.cfg.reg r := State.reads hr (s.readReg_writable hw)
    have hcfg : ((s.begun.applyWrite entries).answered f kindWrite 0x00#8 [] .nothing).finish.cfg = s.cfg.apply entries := by
      rw [State.finish_cfg]
      exact congrArg (fun c => Settings.apply c entries) s.begun_cfg
    rw [State.reads hr (State.readReg_writable _ hw), hcfg, Settings.apply_reg _ _ hw, hnames, hold]
    cases (entries.filter (fun e => e.address == address)).getLast? <;> rfl
  · have hout := State.applyWrite_out ((s.judgeWrite_begun entries).trans hj) p o
    simp only [State.begun_mode, State.begun_port, State.begun_conf, State.begun_inhibit, State.begun_pins, State.begun_cfg] at hout
    have hconf : (s.begun.applyWrite entries).conf p = (s.cfg.apply entries).ports.get p :=
      congrArg (fun c => (Settings.apply c entries).ports.get p) s.begun_cfg
    rw [State.finish_port, State.finish_conf, State.finish_drives, State.answered_port, State.answered_conf,
      State.answered_drives, hconf]
    exact hout
  · have hclose (u : State) : s.withBlocksOf u.finish = s.withBlocksOf u := (congrArg s.withBlocksOf u.finish_frame :)
    have hanswer (u : State) : s.withBlocksOf (u.answered f kindWrite 0x00#8 [] .nothing) = s.withBlocksOf u := rfl
    have hwrite (u : State) : s.withBlocksOf (u.applyWrite entries) = s.withBlocksOf u :=
      (congrArg s.withBlocksOf (u.applyWrite_frame entries) :)
    have hbegun : s.withBlocksOf s.begun = s := (congrArg s.withBlocksOf s.begun_frame :)
    show s.withBlocksOf _ = s
    rw [hclose, hanswer, hwrite, hbegun]

end Sys2Proof.Machine

/-! The field-supply monitor (O28): what the beginning and the end of a period may change, and the table of R72. -/

namespace Sys2Proof.Machine

/-! ### What the beginning and the end of a period may change (R76 to R78) -/

/-- A state with the blocks that the beginning or the end of a period may change taken from another: all but the Supervisor are
kept. -/
def State.withPeriodOf (s u : State) : State :=
  { u with ports := s.ports, deviceCondition := s.deviceCondition, journal := s.journal, attn := s.attn, atn := s.atn }

section
variable (s u : State)

theorem State.withPeriodOf_finish : s.withPeriodOf u.finish = s.withPeriodOf u := (congrArg s.withPeriodOf u.finish_frame :)

/-- What touches ports leaves the rest alone. -/
theorem Touches.withPeriodOf {P : Fin 8 → Prop} {u v : State} (h : Touches P u v) : s.withPeriodOf v = s.withPeriodOf u :=
  (congrArg s.withPeriodOf h.fixed :)

/-- The mark of a period's source, set where the Supervisor announces it (R76, R79). -/
theorem State.withPeriodOf_markIf (c : Bool) (src : Source) (code : Byte) :
    s.withPeriodOf (if c then u.mark src code else u) = s.withPeriodOf u := by cases c <;> rfl

theorem State.withPeriodOf_setDeviceFlag (flag : Nat) : s.withPeriodOf (u.setDeviceFlag flag) = s.withPeriodOf u := rfl

/-- The consequences of the beginning of a period (R77) stay within the ports, the flags, the journal and the marks. -/
theorem State.withPeriodOf_beginPeriod (was : Bool) (e : Event) (flag : Nat) (src : Source) :
    s.withPeriodOf (u.beginPeriod was e flag src) = s.withPeriodOf u := by
  have hports (v : State) : TouchesPorts v (v.forPorts (fun p s => s.supplyPort (!was) p)) :=
    v.forPorts_touches _ (fun p s => s.supplyPort_touches p _)
  unfold State.beginPeriod
  rw [State.withPeriodOf_markIf, State.withPeriodOf_setDeviceFlag, (hports _).withPeriodOf,
    (u.logIf_touches (fun _ => True) _ e).withPeriodOf]

/-- The consequences of the end of a period (R78) stay within the ports, the journal and the marks. -/
theorem State.withPeriodOf_endPeriod (e : Event) (src : Source) : s.withPeriodOf (u.endPeriod e src) = s.withPeriodOf u := by
  have hports : TouchesPorts u (u.forPorts (fun p s => s.withOutputs p (fun s => s.uninhibitPort p))) :=
    u.forPorts_touches _ (fun p s => s.withOutputs_touches p _ (s.uninhibitPort_touches p))
  have hrelease := Touches.ite (u.inhibit = true) (Touches.refl _ u) hports
  unfold State.endPeriod
  rw [State.withPeriodOf_markIf, (State.logIf_touches _ (fun _ => True) _ e).withPeriodOf, hrelease.withPeriodOf]

end

/-! ### The table of R72 -/

section
variable {s : State}

theorem State.fieldFallsLow_good (h : s.sup.field = .good) :
    s.fieldFallsLow = (s.modSup (fun u => ⟨.low, u.hot, 0#8⟩)).beginPeriod s.inhibit (evFieldLowBegin s.liveEngines) bitFieldLow
      .supply := by
  unfold State.fieldFallsLow; rw [h]

theorem State.fieldFallsLow_low (h : s.sup.field = .low) : s.fieldFallsLow = s := by unfold State.fieldFallsLow; rw [h]

theorem State.fieldFallsLow_restoring (h : s.sup.field = .restoring) : s.fieldFallsLow = s.modSup Supervisor.abandonSettle := by
  unfold State.fieldFallsLow; rw [h]

theorem State.fieldFalls_restoring (h : s.sup.field = .restoring) : s.fieldFalls = s.modSup Supervisor.abandonSettle := if_pos h

theorem State.fieldFalls_ignored (h : s.sup.field ≠ .restoring) : s.fieldFalls = s := if_neg h

theorem State.fieldRises_low (h : s.sup.field = .low) : s.fieldRises = s.modSup (fun u => { u with field := .restoring }) := if_pos h

theorem State.fieldRises_ignored (h : s.sup.field ≠ .low) : s.fieldRises = s := if_neg h

theorem State.fieldRestored_restoring (h : s.sup.field = .restoring) :
    let t := s.modSup (fun u => { u with field := .good })
    s.fieldRestored = t.endPeriod (evFieldLowEnd t.sup.attempts t.inhibit) .supply := if_pos h

theorem State.fieldRestored_ignored (h : s.sup.field ≠ .restoring) : s.fieldRestored = s := if_neg h

end

/-- The Supervisor after a fall below 18.0 V (R72, R73). -/
def Supervisor.fallsLow (u : Supervisor) : Supervisor :=
  match u.field with
  | .good => ⟨.low, u.hot, 0#8⟩
  | .low => u
  | .restoring => u.abandonSettle

/-- The Supervisor after the restore settle (R72, R73). -/
def Supervisor.restored (u : Supervisor) : Supervisor := if u.field = .restoring then { u with field := .good } else u

/-- A fall below 18.0 V moves the Supervisor and has the consequences of a beginning at most (R72, R77). -/
theorem State.withPeriodOf_fieldFallsLow (s u : State) :
    s.withPeriodOf u.fieldFallsLow = s.withPeriodOf (u.modSup Supervisor.fallsLow) := by
  unfold State.modSup Supervisor.fallsLow
  cases h : u.sup.field with
  | good => rw [State.fieldFallsLow_good h, State.withPeriodOf_beginPeriod]; rfl
  | low => rw [State.fieldFallsLow_low h]
  | restoring => rw [State.fieldFallsLow_restoring h]; rfl

/-- The restore settle moves the Supervisor and has the consequences of an end at most (R72, R78). -/
theorem State.withPeriodOf_fieldRestored (s u : State) :
    s.withPeriodOf u.fieldRestored = s.withPeriodOf (u.modSup Supervisor.restored) := by
  unfold State.modSup Supervisor.restored
  by_cases h : u.sup.field = .restoring
  · rw [State.fieldRestored_restoring h, State.withPeriodOf_endPeriod, if_pos h]; rfl
  · rw [State.fieldRestored_ignored h, if_neg h]

/-- Settles O28: by the table of R72 event by event, and by the frames of the beginning and the end of a period where the field
state leaves or returns to GOOD. -/
theorem fieldStateMachine : Obligations.FieldStateMachine := by
  intro s hawake
  have hfall := (s.withPeriodOf_finish _).trans (s.withPeriodOf_fieldFallsLow (s.modPins (fun x => x.setField false)))
  have hsettle := (s.withPeriodOf_finish _).trans (s.withPeriodOf_fieldRestored s)
  refine ⟨⟨_, takePinEvent_awake hawake, ?fallLowFrame, ?fallLowPin, fun h => ?fallLowGood,
      fun h => congrArg State.finish (State.fieldFallsLow_low h),
      fun h => congrArg State.finish (State.fieldFallsLow_restoring h)⟩,
    ⟨_, takePinEvent_awake hawake, fun h => congrArg State.finish (State.fieldFalls_ignored h),
      fun h => congrArg State.finish (State.fieldFalls_restoring h)⟩,
    ⟨_, takePinEvent_awake hawake, fun h => congrArg State.finish (State.fieldRises_ignored h),
      fun h => congrArg State.finish (State.fieldRises_low h)⟩,
    ⟨_, takeEvent_awake hawake, ?settleFrame, ?settlePins,
      fun h => congrArg State.finish (State.fieldRestored_ignored h), fun h => ?settleRestoring⟩⟩
  case fallLowFrame => exact (congrArg (fun t : State => { t with sup := s.sup, pins := s.pins }) hfall :)
  case fallLowPin => exact (congrArg (fun t : State => t.pins.vfieldHigh) hfall :)
  case fallLowGood =>
    calc
      _ = s.sup.fallsLow := (congrArg State.sup hfall :)
      _ = _ := by unfold Supervisor.fallsLow; rw [h]
  case settleFrame => exact (congrArg (fun t : State => { t with sup := s.sup, pins := s.pins }) hsettle :)
  case settlePins => exact (congrArg State.pins hsettle :)
  case settleRestoring =>
    calc
      _ = s.sup.restored := (congrArg State.sup hsettle :)
      _ = _ := if_pos h

end Sys2Proof.Machine

/-! FETCH of the port streams and of the journal, and the clean ends that commit it (O42). -/

namespace Sys2Proof.Machine

/-! ### What a FETCH delivers (R133, R144) -/

/-- A FETCH by the selector of a stream 0 to 9 asks for that stream (R4, R8). -/
theorem judgeFetch_selectorOf {stream : BitVec 4} (h : stream.toNat ≤ 9) :
    judgeFetch (selectorOf stream) = .accept (.fetch stream.toNat) := by
  unfold judgeFetch
  rw [selectorStream_selectorOf]
  exact if_pos h

/-- A FETCH sent without error is answered by its stream, in the state where a replaced confirmation has lapsed
(notes/assumptions/34.md). -/
theorem takeFrame_fetch {s : State} {f : FrameHead} {stream : BitVec 4} {d : Done} (hn : stream.toNat ≤ 9)
    (h : Sent s f kindFetch [selectorOf stream]) (hd : s.begun.fetch stream.toNat = d) :
    takeFrame (fetchFrame f (selectorOf stream)) s =
      .next (d.state.answered f kindFetch d.status d.payload d.delivery).finish :=
  takeFrame_answered kindFetch_legal rfl h (judgeFetch_selectorOf hn) hd (hd ▸ (s.begun.fetch_status stream.toNat).2)

/-- The streams 0 to 7 are the ports (R8). -/
theorem State.fetch_port (s : State) (p : Fin 8) : s.fetch p.val = s.fetchPort p := by unfold State.fetch; rw [portOf_val]

/-- Stream 8 is the journal (R8). -/
theorem State.fetch_journal (s : State) : s.fetch 8 = s.fetchJournal := rfl

theorem State.fetchPort_nil {s : State} {p : Fin 8} (h : (s.port p).done = []) : s.fetchPort p = empty s [] := by
  unfold State.fetchPort; rw [h]

theorem State.fetchPort_cons {s : State} {p : Fin 8} {d : DoneSlot} {rest : List DoneSlot} (h : (s.port p).done = d :: rest) :
    s.fetchPort p = ⟨s, stAccepted, d.payload, .slot p d.request.slot, true⟩ := by
  unfold State.fetchPort; rw [h]

theorem State.fetchJournal_nil {s : State} (h : s.journal.entries = []) : s.fetchJournal = empty s [] := by
  unfold State.fetchJournal; rw [h]

theorem State.fetchJournal_cons {s : State} {e : Entry} {rest : List Entry} (h : s.journal.entries = e :: rest) :
    s.fetchJournal = ⟨s, stAccepted, e.bytes, .entry e.seq, true⟩ := by
  unfold State.fetchJournal; rw [h]

/-- The bytes of a result end with its outcome, and with the node's reply where it is DONE_OK (R133). -/
theorem DoneSlot.payload_eq (d : DoneSlot) :
    let r := d.request
    d.payload = [byteOf r.slot.val, r.tag, originOp r, hiByte r.index, loByte r.index, r.subindex] ++
      match d.outcome with
      | .doneOk code reply => 1#8 :: code :: reply
      | .failed => [2#8, 0#8]
      | .abandoned => [3#8, 0#8] := by
  unfold DoneSlot.payload
  cases d.outcome <;> rfl

/-- The origin is the top bit of its byte and the op the rest (R124, R133). -/
theorem originOp_eq (r : Request) :
    originOp r = (match r.origin with | .host => 0x00#8 | .notice => 0x80#8) |||
      (match r.op with | .readParam => 1#8 | .writeParam => 2#8 | .fetchNotice => 3#8) := by
  unfold originOp
  cases r.op <;> rfl

/-! ### What a clean end removes (R134, R145) -/

/-- The clean end of a FETCH that delivered a slot (R134). -/
theorem State.commitSlot_slot {s : State} {r : Reply} {recorded : Bool} {p : Fin 8} {n : Fin 32}
    (h : s.link.phase = .replying r recorded (.slot p n)) : s.commitSlot = s.dropFrame.freeHead p n := by
  unfold State.commitSlot; rw [h]

/-- The clean end of a FETCH that delivered an entry (R145). -/
theorem State.commitEntry_entry {s : State} {r : Reply} {recorded : Bool} {seq : Word}
    (h : s.link.phase = .replying r recorded (.entry seq)) :
    s.commitEntry = { s.dropFrame with journal := s.journal.removeOldest seq } := by
  unfold State.commitEntry; rw [h]; rfl

/-- The delivered slot is freed where it is the oldest done slot (R134). -/
theorem State.freeHead_head {s : State} {p : Fin 8} {d : DoneSlot} {rest : List DoneSlot} (h : (s.port p).done = d :: rest) :
    s.freeHead p d.request.slot = s.modPort p (fun pt => { pt with done := rest }) := by
  unfold State.freeHead; rw [h]; exact if_pos rfl

theorem Journal.removeOldest_cons {j : Journal} {e : Entry} {rest : List Entry} (seq : Word) (h : j.entries = e :: rest) :
    j.removeOldest seq = if e.seq = seq then { j with entries := rest } else j := by
  unfold Journal.removeOldest; rw [h]

theorem Journal.removeOldest_nil {j : Journal} (seq : Word) (h : j.entries = []) : j.removeOldest seq = j := by
  unfold Journal.removeOldest; rw [h]

/-- Settles O42: a FETCH by what is oldest in its list, and a clean end by what the reply phase delivered. -/
theorem fetchDeliversCommitRemoves : Obligations.FetchDeliversCommitRemoves := by
  intro s
  refine ⟨fun f p => ?port, fun f h => ?journal, fun hr => ?ends⟩
  case port =>
    intro selector h
    have hp : (BitVec.ofNat 4 p.val).toNat = p.val := by rw [BitVec.toNat_ofNat]; omega
    have answer {d : Done} (hd : s.begun.fetchPort p = d) := takeFrame_fetch (d := d) (by omega) h
      ((congrArg s.begun.fetch hp).trans ((s.begun.fetch_port p).trans hd))
    refine ⟨fun hnone => ?_, fun d rest hsome => ?_⟩
    · exact answer (State.fetchPort_nil ((congrArg Port.done (s.begun_port p)).trans hnone))
    · intro r origin op result
      have hbytes : d.payload =
          [BitVec.ofNat 8 r.slot.val, r.tag, origin ||| op, hiByte r.index, loByte r.index, r.subindex] ++ result :=
        d.payload_eq.trans (by rw [originOp_eq]; rfl)
      rw [← hbytes]
      exact answer (State.fetchPort_cons ((congrArg Port.done (s.begun_port p)).trans hsome))
  case journal =>
    have answer {d : Done} (hd : s.begun.fetchJournal = d) := takeFrame_fetch (stream := 8#4) (by decide) h
      (s.begun.fetch_journal.trans hd)
    exact ⟨fun hnone => answer (State.fetchJournal_nil hnone), fun e rest hsome => answer (State.fetchJournal_cons hsome)⟩
  case ends =>
    obtain ⟨-, hslot, hentry, -⟩ := exec_frameEnds hr
    refine ⟨fun r recorded p d rest hphase hdone => ?_, fun r recorded seq hphase => ⟨fun e rest hsome => ?_, fun hnone => ?_⟩⟩
    · rw [hslot, State.commitSlot_slot hphase, State.freeHead_head (s := s.dropFrame) hdone]; rfl
    · rw [hentry, State.commitEntry_entry hphase, Journal.removeOldest_cons seq hsome]
      split <;> rfl
    · rw [hentry, State.commitEntry_entry hphase, Journal.removeOldest_nil seq hnone]; rfl

end Sys2Proof.Machine

/-! KA_WARNING and KA_REFRESH (O18), and the CONFIRM of KA_ARM and of KA_DISARM (O19). -/

namespace Sys2Proof.Machine

/-! ### The warning (R166) -/

/-- The warning in ARMED: its entry and its mark (R166; notes/assumptions/20.md). -/
theorem State.kaWarn_armed {s : State} (h : s.ka.state = .armed) :
    s.kaWarn =
      { s with
        ka := { s.ka with state := .warned, elapsedMs := keepaliveMs s.ka.period.toNat / 2 }
        journal := s.journal.put s.cfg.journalConfig s.timeBase (evKaWarning s.ka.period)
        attn := s.attn.mark .keepalive (fun l => l.addCode 1#8) } := if_pos h

/-- The warning in any other keepalive state (notes/assumptions/2.md). -/
theorem State.kaWarn_ignored {s : State} (h : s.ka.state ≠ .armed) : s.kaWarn = s := if_neg h

/-! ### The refresh (R169) -/

@[simp] theorem State.begun_ka (s : State) : s.begun.ka = s.ka := (congrArg State.ka s.begun_frame :)

/-- A refresh starts the recorded period again, and replies with what was left before it (R169). -/
theorem Command.run_kaRefresh (s : State) :
    Command.kaRefresh.run s = accepted { s with ka := ⟨.armed, s.ka.period, 0⟩ } (wordBytes (BitVec.ofNat 16 s.ka.remaining)) :=
  rfl

/-- KA_REFRESH needs a running timer (R169). -/
theorem Command.check_kaRefresh_running {s : State} (h : s.ka.state = .armed ∨ s.ka.state = .warned) :
    Command.kaRefresh.check s = none := if_pos ((KaState.running_iff _).2 h)

/-- With its timer stopped KA_REFRESH is refused (R169). -/
theorem Command.check_kaRefresh_stopped {s : State} (ha : s.ka.state ≠ .armed) (hw : s.ka.state ≠ .warned) :
    Command.kaRefresh.check s = some 0x8A#8 := if_neg (fun h => ((KaState.running_iff _).1 h).elim ha hw)

/-- Settles O18: the warning by the keepalive state, and the refresh by its own check and arguments. -/
theorem keepaliveWarningAndRefresh : Obligations.KeepaliveWarningAndRefresh := by
  intro s f
  refine ⟨fun hawake => ?warning, fun h hrun => ?running, fun h ha hw => ?stopped, fun args ha hn h => ?arguments⟩
  case warning =>
    rw [exec_kaWarning, takeEvent_awake hawake]
    by_cases harmed : s.ka.state = .armed
    · rw [if_pos harmed, State.kaWarn_armed harmed]; rfl
    · rw [if_neg harmed, State.kaWarn_ignored harmed]
  case running =>
    rw [exec_kaRefresh, issue_run (c := .kaRefresh) h (by simp) rfl (by simp) rfl (Command.check_kaRefresh_running hrun) rfl,
      Command.run_kaRefresh, State.begun_ka, Keepalive.remaining_running hrun]
    rfl
  case stopped =>
    rw [exec_kaRefresh, issue_refused (c := .kaRefresh) h (by simp) rfl (by simp) (Command.check_kaRefresh_stopped ha hw)]
  case arguments =>
    rw [exec_kaRefresh, issue_unparsed h hn (noArgs_cons .kaRefresh ha)]
    rfl

/-! ### The CONFIRM of a pending command (R22) -/

/-- A CONFIRM that repeats the command pending executes it in the state where the confirmation is used up (R22). -/
theorem confirm_executes {s : State} {f : FrameHead} {r : Pending} {c : Command} {d : Done}
    (h : Issued s f 0x01#8 (r.code :: r.args)) (hn : r.args.length ≤ 6) (hc : s.link.confirm = some r)
    (hp : parseCommand r.code r.args = .ok c) (hk : c.check s = none) (hrun : c.run s.begunConfirm = d)
    (hd : d.recorded = true) :
    exec (.confirm f (r.code :: r.args)) s = .next (d.state.answered f kindIssue d.status d.payload d.delivery).finish :=
  takeFrame_answered kindIssue_legal (issue_length (args := r.code :: r.args) (Nat.succ_le_succ hn)) h
    (State.judgeConfirm_passes (s := s.dropFrame) hc hp ((Command.check_dropFrame c s).trans hk)) hrun hd

/-! ### Arming and disarming (R167, R168) -/

/-- A period code 0 to 7 is kept by its three bits. -/
theorem toNat_setWidth_period {k : Byte} (h : k.toNat ≤ 7) : (k.setWidth 3).toNat = k.toNat := by
  rw [BitVec.toNat_setWidth]; omega

/-- KA_ARMED shows the period code of the command (R167). -/
theorem evKaArmed_period {k : Byte} (h : k.toNat ≤ 7) :
    evKaArmed (k.setWidth 3) = ⟨.keepalive, false, 10#8, 0x60#8, [k]⟩ := by
  unfold evKaArmed byteOf kaEvent
  rw [toNat_setWidth_period h, BitVec.ofNat_toNat, BitVec.setWidth_eq]

/-- The period code of the command as the auto-arm setting holds it (R167). -/
theorem setWidth_period {k : Byte} (h : k.toNat ≤ 7) : (k.setWidth 3).setWidth 4 = k.setWidth 4 := by
  apply BitVec.eq_of_toNat_eq
  rw [BitVec.toNat_setWidth, toNat_setWidth_period h, BitVec.toNat_setWidth]

/-- KA_ARM with a period code 0 to 7, executed (R167). -/
theorem State.kaArm_period (s : State) {k : Byte} (h : k.toNat ≤ 7) :
    s.kaArm (k.setWidth 3) =
      { s with
        ka := ⟨.armed, k.setWidth 3, 0⟩
        cfg := { s.cfg with autoArm := k.setWidth 4 + 1#4 }
        journal := s.journal.put s.cfg.journalConfig s.timeBase ⟨.keepalive, false, 10#8, 0x60#8, [k]⟩ } := by
  unfold State.kaArm
  rw [evKaArmed_period h, setWidth_period h]
  rfl

/-- KA_DISARM executed (R168). -/
theorem State.kaDisarm_eq (s : State) :
    s.kaDisarm =
      { s with
        ka := { s.ka with state := .disarmed }
        cfg := { s.cfg with autoArm := 0#4 }
        journal := s.journal.put s.cfg.journalConfig s.timeBase ⟨.keepalive, false, 10#8, 0x61#8, [1#8]⟩ } := rfl

/-- KA_ARM takes one argument, a period code 0 to 7 (R167). -/
theorem parseCommand_kaArm_refused {args : List Byte} (h : ∀ k : Byte, args = [k] → 7 < k.toNat) :
    parseCommand 0x28#8 args = .refused 0x89#8 := by
  show argsOr (kaArmArgs args) = _
  match args with
  | [] => rfl
  | [k] => exact congrArg argsOr (if_neg (Nat.not_le.2 (h k rfl)))
  | _ :: _ :: _ => rfl

/-- Settles O19: both executions by `confirm_executes`, and the refusals by the arguments of each command. -/
theorem keepaliveArmAndDisarmExecute : Obligations.KeepaliveArmAndDisarmExecute := by
  intro s f b
  refine ⟨?arm, ?disarm, fun args hn h hbad => ?armArguments, fun args ha hn h => ?disarmArguments⟩
  case arm =>
    rintro k hk h ⟨tag, hc⟩ hmode
    exact confirm_executes (r := ⟨0x28#8, [k], tag⟩) h (by simp) hc (parseCommand_kaArm hk) (if_pos hmode)
      (congrArg (accepted · []) (b.kaArm_period hk)) rfl
  case disarm =>
    rintro h ⟨tag, hc⟩ hrun
    exact confirm_executes (r := ⟨0x29#8, [], tag⟩) (c := .kaDisarm) h (by simp) hc rfl
      (if_pos ((KaState.running_iff _).2 hrun)) (congrArg (accepted · []) b.kaDisarm_eq) rfl
  case armArguments => rw [exec_kaArm, issue_unparsed h hn (parseCommand_kaArm_refused hbad)]
  case disarmArguments =>
    rw [exec_kaDisarm, issue_unparsed h hn (noArgs_cons .kaDisarm ha)]
    rfl

end Sys2Proof.Machine
